-- ==== Sys2Proof/Word.lean ====
section
/-! DEFINITION. The two widths that this part's bytes and check words have. Quantities (ticks, mA, mV, codes, counts) are
numbers in the spec and stay `Nat` and `Int` in the model; bit vectors stand only for bytes, CRCs and bit patterns. -/

namespace Sys2Proof

/-- One byte on the air or on the station port (R184). -/
abbrev Byte := BitVec 8

/-- A CRC-16, a plan tag or a 16-bit bit pattern (R186, R187, R64). -/
abbrev Word16 := BitVec 16

end Sys2Proof
end

