-- ==== Sys2Proof/Config.lean ====
section
/-! DEFINITION. What every KX41 has fixed: the lengths, limits and code values that the rules name, and the free values of
the spec, which are opaque constants with no body. -/

namespace Sys2Proof.Config

/-- Line ticks in a line day (R1). -/
abbrev day : Nat := 864000000

/-- Line ticks in an epoch (section 6.1 of 00_scope.md). -/
abbrev epoch : Nat := 100000

/-- The elapsed-tick count wraps at this value (R2). -/
abbrev elapsedRange : Nat := 4294967296

/-- Line ticks in one conversion slot (section 2.1). -/
abbrev slotTicks : Nat := 5

/-- Elapsed ticks of closed SWITCH between ramp ticks (R45). -/
abbrev rampPeriod : Nat := 1000

/-- Elapsed ticks of a clean run (R53). -/
abbrev cleanRunTicks : Nat := 3000000

/-- Elapsed ticks of a MARK pulse (R13). -/
abbrev markTicks : Nat := 500

/-- Ticks of inactive CD that make the idle gap (R68). -/
abbrev idleGap : Nat := 200

/-- Elapsed ticks from KEY assertion to the preamble (R71). -/
abbrev keyLead : Nat := 300

/-- Elapsed ticks from KEY assertion to the tick of the first sync bit (R72: in the tick of line time t + 366). -/
abbrev stampLag : Nat := 366

/-- Elapsed ticks without a byte that end a port frame (R169). -/
abbrev portGap : Nat := 51

/-- Elapsed ticks without a pulse that end the anchor (R115). -/
abbrev anchorLossTicks : Nat := 30000

/-- Low ticks that arm the TPI recognizer (R110). -/
abbrev tpiLowTicks : Nat := 1000

/-- The start value of a port frame (section 11.5). -/
abbrev startByte : Byte := 0xA5

/-- One bit on the air, in twelfths of a tick (R63: 25/12 ticks). -/
abbrev bitTwelfths : Nat := 25

/-- The sync pattern 1110 0100 1011 0001 (R64). -/
abbrev syncPattern : Word16 := 0b1110010010110001

/-- FREE VALUE (DESIGN CHOICE, log 4, safe): the draw of R4, less its lower bound 5,000. The argument is the number of free
values used before it. Nothing is known of it but its range. -/
opaque statusDraw : Nat → Fin 80000

/-- FREE VALUE (DESIGN CHOICE, log 4, safe): the source of the backoff draw of R69, taken modulo the contention window W. -/
opaque backoffDraw : Nat → Nat

/-- FREE VALUE (DESIGN CHOICE, log 16, safe): the hops to relay of an entry that is not relayed, which no rule states. -/
opaque unrelayedHops : Nat → Fin 16

/-- FREE VALUE (DESIGN CHOICE, log 16, safe): whether the relay action of an entry that is not relayed reads START. -/
opaque unrelayedIsStart : Nat → Bool

/-- FREE VALUE (DESIGN CHOICE, log 31, safe): whether the regulation point is taken before the stuck-switch report that reaches
the drive at the same instant, an order that R123 leaves open. -/
opaque pointFirst : Nat → Bool

end Sys2Proof.Config
end

