-- ==== Sys2Proof/Syntax.lean ====
section
/-! DEFINITION. The commands and events of spec/opcode_table.json, one constructor per row. The table gives no operand bits;
each operand is what the row's rule says comes from outside at that moment (logs 5, 17 and 18). -/

namespace Sys2Proof

/-- The parameters of SURVEY START as the port carries them (R142, section 11.5). -/
structure SurveyArgs where
  /-- lead in epochs -/
  lead : Nat
  /-- cycle length C, ticks -/
  cycle : Nat
  /-- off length F_s, ticks -/
  offLen : Nat
  /-- dither type as its encoded number (section 11.2) -/
  dither : Nat
  /-- dither span D_s, ticks -/
  ditherSpan : Nat
  /-- number of cycles N -/
  cycles : Nat
  /-- span from, chainage -/
  spanFrom : Nat
  /-- span to, chainage -/
  spanTo : Nat
  /-- hop count -/
  hops : Nat
deriving DecidableEq, Repr

/-- What the receive data line shows the receiver in one tick (R63; DESIGN CHOICE, log 17). A transition before the centre that the
tick holds, or in a tick that holds none, is `retimed`; one after that centre is `retimedAfter`. -/
structure RxLine where
  /-- the line changed level, and by it the receiver's recovered bit timing puts the centre of the coming bit this many twelfths of a
  tick after the tick's start, 0 to 36: below 12 the bit is taken in this tick; none when the line did not change -/
  retimed : Option Nat
  /-- the line changed level after the centre of the bit taken in this tick, and by it the timing puts the next bit's centre this many
  twelfths of a tick after the tick's start, 12 to 36; none when the line did not change then -/
  retimedAfter : Option Nat
  /-- the level a sixteenth of a bit before the centre of the bit whose centre falls in this tick -/
  early : Bool
  /-- the level at that centre -/
  centre : Bool
  /-- the level a sixteenth of a bit after it -/
  late : Bool
deriving DecidableEq, Repr

/-- The radio's two lines in one tick: CD (true: active) and the receive data line. -/
structure RadioLines where
  cd : Bool
  data : RxLine
deriving DecidableEq, Repr

/-- One step of the part: a row of spec/opcode_table.json. -/
inductive Instr where
  /-- POWER_ON_RESET (R173) -/
  | powerOnReset
  /-- EPOCH_END (R3) -/
  | epochEnd
  /-- TRANSMISSION_POINT (R4) -/
  | transmissionPoint
  /-- ON_REFERENCE_START (R6) -/
  | onReferenceStart
  /-- OFF_START (R7) -/
  | offStart
  /-- OFF_END (R7) -/
  | offEnd
  /-- MARK_PULSE_END (R13) -/
  | markPulseEnd
  /-- CONVERSION_SLOT (R22): `code` is the raw code the converter took in the slot that ends. -/
  | conversionSlot (code : Int)
  /-- RAMP_TICK (R45) -/
  | rampTick
  /-- RETRY_EXPIRY (R52) -/
  | retryExpiry
  /-- CLEAN_RUN (R53) -/
  | cleanRun
  /-- TPI_ARM (R110) -/
  | tpiArm
  /-- TPI_PULSE (R111) -/
  | tpiPulse
  /-- ANCHOR_LOSS (R115) -/
  | anchorLoss
  /-- IDLE_GAP (R69) -/
  | idleGap
  /-- BACKOFF_END (R69) -/
  | backoffEnd
  /-- PREAMBLE (R71) -/
  | preamble
  /-- STAMP (R72) -/
  | stamp
  /-- KEY_RELEASE (R71) -/
  | keyRelease
  /-- FRAME_COMPLETE (R77): the body bytes and the two CRC bytes that the receiver took. -/
  | frameComplete (body : List Byte) (crc : Word16)
  /-- SURVEY_BEGIN (R152) -/
  | surveyBegin
  /-- SURVEY_END (R152) -/
  | surveyEnd
  /-- PORT_BYTE (R168): the byte whose stop bit is sampled. -/
  | portByte (b : Byte)
  /-- PORT_GAP_TIMEOUT (R169) -/
  | portGapTimeout
  /-- REPLY_SENT (R170) -/
  | replySent
  /-- UNKNOWN_COMMAND (R171): a whole command frame with this code. -/
  | unknownCommand (code : Byte)
  /-- LOAD_PARAMETER (R176) -/
  | loadParameter (number : Nat) (value : Int)
  /-- READ_PARAMETER (R177) -/
  | readParameter (number : Nat)
  /-- SET_LINE_TIME (R178) -/
  | setLineTime (time : Nat)
  /-- START (R180) -/
  | start
  /-- PART_STATUS (R181) -/
  | partStatus
  /-- READ_ATTENTION (R167) -/
  | readAttention
  /-- READ_RECORDS (R163) -/
  | readRecords (count : Nat)
  /-- PEER_LIST (R96) -/
  | peerList
  /-- SURVEY_LIST (R158) -/
  | surveyList
  /-- CAPTURE_OPEN (R38) -/
  | captureOpen
  /-- CAPTURE_FETCH (R182) -/
  | captureFetch (first : Nat) (count : Nat)
  /-- CAPTURE_CLOSE (R183) -/
  | captureClose
  /-- SURVEY_START (R143) -/
  | surveyStart (args : SurveyArgs)
  /-- SURVEY_HALT (R149) -/
  | surveyHalt
  /-- OUTPUT_OFF (R58) -/
  | outputOff
  /-- OUTPUT_ON (R59) -/
  | outputOn
  /-- CLEAR_FAULT (R60) -/
  | clearFault
  /-- RESTART (R174) -/
  | restart
  /-- LINE_TICK (R1): the radio's lines (R63, R68) and the level of TPI (true: high, R110) in the tick. -/
  | lineTick (radio : RadioLines) (tpi : Bool)
  /-- SYNC_PATTERN_MATCH (R74): the last 16 bits the receiver took, the first of them the most significant. -/
  | syncPatternMatch (bits : Word16)
  /-- FRAME_ABANDONED (R75): the length byte that the receiver took. -/
  | frameAbandoned (length : Byte)
deriving DecidableEq, Repr

end Sys2Proof
end

