-- ==== Sys2Proof/WellFormed.lean ====
section
/-! DEFINITION. Which terms of `Instr` the outside can send: each operand within the width that the spec gives it on its way
in. Values that fit their width but lie outside a parameter's range are well formed; the part itself answers them. -/

namespace Sys2Proof

/-- The widths of SURVEY START's parameters (section 11.5): lead 2 bytes, C 4, F_s 2, dither type 1, D_s 2, N 2, spans 2
each, hops 1. -/
abbrev SurveyArgs.WellFormed (a : SurveyArgs) : Prop :=
  a.lead < 65536 ∧ a.cycle < 4294967296 ∧ a.offLen < 65536 ∧ a.dither < 256 ∧ a.ditherSpan < 65536 ∧
    a.cycles < 65536 ∧ a.spanFrom < 65536 ∧ a.spanTo < 65536 ∧ a.hops < 256

/-- The command codes of the table of section 11.5. -/
def knownCodes : List Byte :=
  [0x10, 0x11, 0x12, 0x13, 0x14, 0x15, 0x16, 0x17, 0x18, 0x19, 0x1A, 0x1B, 0x20, 0x21, 0x22, 0x23, 0x24, 0x2F]

/-- An instruction the outside can send. -/
def Instr.wellFormed : Instr → Bool
  -- the converter's range (R23); OUTI and OUTV codes have the same weight of 32,768 (R24)
  | .conversionSlot code => decide (-32768 ≤ code ∧ code ≤ 32767)
  -- body length 16 to 32 (R64, R75)
  | .frameComplete body _ => decide (16 ≤ body.length ∧ body.length ≤ 32)
  | .unknownCommand code => decide (code ∉ knownCodes)
  | .loadParameter number value => decide (number < 256 ∧ -2147483648 ≤ value ∧ value ≤ 2147483647)
  | .readParameter number => decide (number < 256)
  | .setLineTime time => decide (time < 4294967296)
  | .readRecords count => decide (count < 256)
  | .captureFetch first count => decide (first < 65536 ∧ count < 256)
  | .surveyStart args => decide args.WellFormed
  -- the receiver's comparison has matched (R74)
  | .syncPatternMatch bits => decide (bits = Config.syncPattern)
  -- a length byte outside 16 to 32 (R75)
  | .frameAbandoned length => decide (length.toNat < 16 ∨ 32 < length.toNat)
  -- a centre at most 24 twelfths past the tick, within one bit of 25/12 ticks; after the bit of the tick, past the tick (R63)
  | .lineTick radio _ => decide ((∀ k ∈ radio.data.retimed, k ≤ 36) ∧ ∀ k ∈ radio.data.retimedAfter, 12 ≤ k ∧ k ≤ 36)
  | .powerOnReset | .epochEnd | .transmissionPoint | .onReferenceStart | .offStart | .offEnd | .markPulseEnd
  | .rampTick | .retryExpiry | .cleanRun | .tpiArm | .tpiPulse | .anchorLoss | .idleGap | .backoffEnd | .preamble
  | .stamp | .keyRelease | .surveyBegin | .surveyEnd | .portByte _ | .portGapTimeout | .replySent | .start
  | .partStatus | .readAttention | .peerList | .surveyList | .captureOpen | .captureClose | .surveyHalt | .outputOff
  | .outputOn | .clearFault | .restart => true

end Sys2Proof
end

