-- ==== Sys2Proof/Decode.lean ====
section
/-! DEFINITION. The decoder over the rows of spec/opcode_table.json that give bits. No row gives any ("n_rows_with_fixed": 0
and "fields": [] on every row, spec/98_reader.md), so no word spells a command (log 25). The byte formats by which the
outside really reaches the part (port frames, air frames) are decoded in Sys2Proof/Machine/Operands.lean. -/

namespace Sys2Proof

/-- The command that a word of the table's bits spells: none, since the table gives no row any bits. -/
def decodeTableWord (_nbits _w : Nat) : Option Instr := none

end Sys2Proof
end

