-- ==== Sys2Proof/Machine/State.lean ====
section
/-! DEFINITION. Every piece of state the spec gives the KX41, block by block as section 4 of 00_scope.md lists them, as plain
data; the outcomes' reason types; and the state after power-on reset. -/

namespace Sys2Proof.Machine

/-- The part stops with no fault: the spec describes no event that stops it, so this type has no constructor. -/
inductive Fault where
deriving DecidableEq, Repr

/-- Why a command has no meaning. -/
inductive Refusal where
  /-- The row has no meaning yet. Raised by an arm of `exec` that is not modelled, of which there is none. Safe: nothing runs. -/
  | notModelled (mnemonic : String)
deriving DecidableEq, Repr

/-- The outcome of one command. -/
abbrev Result (σ : Type) := Host.Outcome σ Fault Refusal

/-! ### Named values (section 11.2) -/

/-- Part state (section 10.2). -/
inductive PartState | setup | running
deriving DecidableEq, Repr

/-- Timing state (section 6.1). -/
inductive TimingState | stopped | acquire | free | tracking | anchored
deriving DecidableEq, Repr

/-- Executed plan (R5). -/
inductive Plan | steady | survey
deriving DecidableEq, Repr

/-- Drive state (section 3.1). -/
inductive DriveState | halted | ramping | on | tripped | lockout
deriving DecidableEq, Repr

/-- Trip cause (R55). -/
inductive TripCause | noCause | overcurrent | openCircuit | switchStuck
deriving DecidableEq, Repr

/-- Condition (section 7.6). -/
inductive Condition | unknown | normal | short | excess | hold
deriving DecidableEq, Repr

/-- Hold reason (R122). -/
inductive HoldReason | drive | abandoned | survey | unsyncPeer | stray
deriving DecidableEq, Repr

/-- Dither type (R8). -/
inductive Dither | noDither | pseudo | triangle
deriving DecidableEq, Repr

/-- Action of a survey notice (section 11.3). -/
inductive NoticeAction | start | halt
deriving DecidableEq, Repr

/-- State of a survey notice entry (chapter 8). -/
inductive EntryState | pending | active | ended | halted | superseded | ignored
deriving DecidableEq, Repr

/-- State of a capture bank (R33). -/
inductive BankState | free | filling | sealed | held
deriving DecidableEq, Repr

/-- Kind of a window pair, of its reduction and of its record (R7, R159). -/
inductive PairKind | check | survey
deriving DecidableEq, Repr

/-- Window state (R7). -/
inductive WindowState | noWindow | onReference | off
deriving DecidableEq, Repr

/-- The converter's three inputs (section 2.1). -/
inductive Channel | psp | outi | outv
deriving DecidableEq, Repr

/-- The two capture banks (section 2.5). -/
inductive BankId | a | b
deriving DecidableEq, Repr

/-- Transmitter state (section 4.3). -/
inductive TxState | idle | defer | backoff | keyed | sending
deriving DecidableEq, Repr

/-- Receiver state (section 4.5). -/
inductive RxState | off | hunt | length | body | check
deriving DecidableEq, Repr

/-- Port state (R168). -/
inductive PortState | idle | receiving | replying
deriving DecidableEq, Repr

/-- Reply codes (section 10.1.1). -/
inductive ReplyCode | ok | state | value | conflict | busy | unsync | origin | empty | unknown
deriving DecidableEq, Repr

/-- The seven attention reasons (section 9.3). -/
inductive Reason | records | driveTrip | driveLockout | timingLost | duplicateNumber | regHold | survey
deriving DecidableEq, Repr

/-! ### Shared data -/

/-- A survey's identity: origin station and sequence (chapter 8). -/
structure SurveyId where
  origin : Nat
  seq : Nat
deriving DecidableEq, Repr

/-- The START parameters of a survey: S, C, F_s, dither type, D_s, N (chapter 8). -/
structure SurveyParams where
  start : Nat
  cycle : Nat
  offLen : Nat
  dither : Dither
  ditherSpan : Nat
  cycles : Nat
deriving DecidableEq, Repr

/-- One window pair: its kind, index, survey identity and the three positions of its windows (chapter 1). `serial` is the
model's own opening number, which tells two openings of the same pair apart (DESIGN CHOICE, log 12). -/
structure Pair where
  kind : PairKind
  index : Nat
  survey : Option SurveyId
  onRefStart : Nat
  offStart : Nat
  offEnd : Nat
  serial : Nat
deriving DecidableEq, Repr

/-! ### Line timer (chapter 1) -/

/-- The epoch end that fired at the present line tick and waits for EPOCH_END (R3): none, the whole of its work for the multiple
at which it fired, or, after a step in the same tick, the rest of it (log 32). -/
inductive EpochWork | nothing | whole (multiple : Nat) | rest
deriving DecidableEq, Repr

/-- The line timer's state. -/
structure Timer where
  lineTime : Nat
  elapsed : Nat
  /-- none in SETUP (R3) -/
  nextEpochEnd : Option Nat
  tally : Nat
  /-- the epoch end that has fired and waits for its row -/
  epochWork : EpochWork
  /-- the armed transmission point, none when disarmed (R4) -/
  txPoint : Option Nat
  plan : Plan
  pair : Option Pair
  window : WindowState
  /-- MARK is low (R13) -/
  markLow : Bool
  /-- elapsed tick of the survey off start that drove MARK low -/
  markStart : Nat
  /-- the model's own: line time was brought to its present value by counting (DESIGN CHOICE, log 13) -/
  counted : Bool
  /-- the model's own: pairs opened so far, the next pair's opening number (DESIGN CHOICE, log 12) -/
  opened : Nat
deriving DecidableEq, Repr

/-! ### Alignment unit (chapter 6) -/

/-- The alignment unit's state. -/
structure Align where
  timing : TimingState
  root : Nat
  acquireCount : Nat
  lowerStreak : Nat
  lostStreak : Nat
  pendingCorr : Int
  lowRun : Nat
  armed : Bool
  highRun : Nat
  pulseStreak : Nat
  lastPulse : Option Nat
deriving DecidableEq, Repr

/-! ### Acquisition unit (chapter 2) -/

/-- The five tags a conversion takes at its slot's start (R22), and its slot number (R32, R35, R36). `pair` is the opening
number of the pair in progress. -/
structure Tag where
  channel : Channel
  role : WindowState
  pair : Option Nat
  offset : Nat
  switchClosed : Bool
  seq : Nat
deriving DecidableEq, Repr

/-- A conversion in the pipeline stage: its tags and raw code (R22). -/
structure Conversion where
  tag : Tag
  code : Int
deriving DecidableEq, Repr

/-- A running sum and its count. -/
structure Sum where
  total : Int
  count : Nat
deriving DecidableEq, Repr

/-- The on-reference sums (R26). -/
structure OnSums where
  psp : Sum
  outi : Sum
  outv : Sum
deriving DecidableEq, Repr

/-- The three figures of a completed on-reference reduction (R26). -/
structure OnFigures where
  eOn : Int
  iOn : Int
  vOn : Int
deriving DecidableEq, Repr

/-- The off-sample set's sum, count, minimum and maximum (R27). The last two mean something when the count is not 0. -/
structure OffSet where
  total : Int
  count : Nat
  low : Int
  high : Int
deriving DecidableEq, Repr

/-- One PSP sample of a ring or bank: corrected value in mV and slot number (R35, R36). -/
structure Entry where
  value : Int
  slot : Int
deriving DecidableEq, Repr

/-- A capture header, less its entry count, which is the number of entries (section 2.5). -/
structure Header where
  kind : PairKind
  index : Nat
  survey : Option SurveyId
  truncated : Bool
  abandoned : Bool
  short : Bool
deriving DecidableEq, Repr

/-- A capture bank (R33). -/
structure Bank where
  state : BankState
  /-- none: the empty header -/
  header : Option Header
  entries : List Entry
deriving DecidableEq, Repr

/-- What the acquisition unit gathers for one pair (sections 2.3 and 2.5). -/
structure PairWork where
  pair : Pair
  onSums : OnSums
  figures : Option OnFigures
  ring : List Entry
  /-- on-reference slots of the pair, known at the off start -/
  onSlots : Nat
  /-- elapsed tick of the off start event -/
  offStart : Nat
  offSet : OffSet
  bank : Option BankId
deriving DecidableEq, Repr

/-- The acquisition unit's state. -/
structure Acq where
  /-- the converter is RUNNING -/
  running : Bool
  slotStart : Nat
  /-- the slot number that the next slot of this window state takes (R21) -/
  seq : Nat
  /-- the tags of the slot in progress -/
  slot : Option Tag
  pipe : Option Conversion
  discardFirst : Bool
  /-- the pair in progress -/
  current : Option PairWork
  /-- the pair whose off window's flush slot is awaited or running (R25, R33) -/
  flushing : Option PairWork
  pendingTake : Bool
  latestCurrent : Nat
  bankA : Bank
  bankB : Bank
  /-- the more recently sealed bank (R33) -/
  newer : Option BankId
deriving DecidableEq, Repr

/-- A pair's reduction (R29). -/
structure Reduction where
  kind : PairKind
  index : Nat
  survey : Option SurveyId
  eOn : Option Int
  iOn : Int
  vOn : Int
  eOff : Option Int
  spread : Int
  setCount : Nat
  short : Bool
  truncated : Bool
  abandoned : Bool
deriving DecidableEq, Repr

/-! ### Drive controller (chapter 3) -/

/-- The drive controller's state. -/
structure Drive where
  state : DriveState
  /-- the value on DEMAND -/
  demand : Nat
  setpointCode : Nat
  rampTarget : Nat
  backoff : Nat
  rampTimer : Nat
  /-- the retry timer's expiry, none when disarmed -/
  retry : Option Nat
  retryCount : Nat
  /-- the elapsed tick the clean-run timer started from, none when stopped -/
  cleanRun : Option Nat
  cause : TripCause
  overRun : Nat
  openRun : Nat
  /-- the SWITCH output -/
  switchClosed : Bool
deriving DecidableEq, Repr

/-! ### Regulator (chapter 7) -/

/-- The regulator's state. -/
structure Reg where
  iSet : Int
  code : Nat
  condition : Condition
  amount : Option Nat
  holdReason : Option HoldReason
  holdCount : Nat
  lastDepth : Option Int
  driveAtOnRef : Bool
deriving DecidableEq, Repr

/-! ### Link controller (chapter 4) -/

/-- What a survey notice says besides its identity, hops and span (section 11.3). -/
inductive NoticeBody
  | start (params : SurveyParams)
  | halt (time : Nat)
deriving DecidableEq, Repr

/-- A SURVEY NOTICE frame's fields (section 11.3). -/
structure Notice where
  id : SurveyId
  hops : Nat
  spanFrom : Nat
  spanTo : Nat
  body : NoticeBody
deriving DecidableEq, Repr

/-- A STATUS frame's fields (R73). -/
structure Status where
  station : Nat
  chainage : Nat
  planTag : Word16
  stamp : Nat
  timing : TimingState
  root : Nat
  plan : Plan
  drive : DriveState
  current : Nat
  condition : Condition
  holdReason : Option HoldReason
  depth : Option Int
  amount : Option Nat
  survey : Option SurveyId
deriving DecidableEq, Repr

/-- A waiting frame: a STATUS request without contents, or a finished notice copy (section 4.2). -/
inductive TxEntry
  | status
  | notice (n : Notice)
deriving DecidableEq, Repr

/-- The frame in the transmitter and, once it is built, its body bytes (R72). -/
structure TxFrame where
  entry : TxEntry
  body : Option (List Byte)
deriving DecidableEq, Repr

/-- The frame in assembly: its receive stamp, after LENGTH its length byte, and the body and CRC bytes taken so far (R74, R75). -/
structure RxFrame where
  stamp : Nat
  length : Option Nat
  body : List Byte
  crc : List Byte
deriving DecidableEq, Repr

/-- The link controller's state. -/
structure Link where
  queue : List TxEntry
  tx : TxState
  frame : Option TxFrame
  /-- KEY is asserted -/
  key : Bool
  keyStart : Nat
  /-- contention window W -/
  window : Nat
  attempts : Nat
  backoffEnd : Nat
  idleCount : Nat
  rx : RxState
  /-- the recovered bit timing: twelfths of a tick from the next tick's start to the next bit's centre (R63, log 17);
  it runs on in OFF and is kept at KEY release (DESIGN CHOICE, log 17) -/
  toCentre : Nat
  /-- the bits taken, oldest first: in HUNT the last 16, in the other states those of the byte being taken (R74, R75) -/
  bits : List Bool
  assembly : Option RxFrame
  crcTally : Nat
  malformedTally : Nat
  outOfSpanTally : Nat
  txDropTally : Nat
deriving DecidableEq, Repr

/-! ### Peer table (chapter 5) -/

/-- One peer entry. -/
structure Peer where
  station : Nat
  chainage : Nat
  planMatch : Bool
  timing : TimingState
  root : Nat
  offset : Int
  lastHeard : Nat
  drive : DriveState
  current : Nat
  condition : Condition
  holdReason : Option HoldReason
  amount : Option Nat
  depth : Option Int
  plan : Plan
  survey : Option SurveyId
  heardCount : Nat
deriving DecidableEq, Repr

/-! ### Survey unit (chapter 8) -/

/-- One survey notice entry. -/
structure SurveyEntry where
  id : SurveyId
  spanFrom : Nat
  spanTo : Nat
  params : Option SurveyParams
  halt : Option Nat
  endTime : Option Nat
  state : EntryState
  relay : NoticeAction
  copiesLeft : Nat
  hops : Nat
  heard : Nat
  receipt : Nat
deriving DecidableEq, Repr

/-- The survey unit's state. -/
structure Survey where
  table : List SurveyEntry
  ownSeq : Nat
deriving DecidableEq, Repr

/-! ### Record queue (chapter 9) -/

/-- One cycle record (R159). -/
structure CycleRecord where
  kind : PairKind
  index : Nat
  survey : Option SurveyId
  eOn : Option Int
  eOff : Option Int
  spread : Int
  iOn : Int
  vOn : Int
  setpoint : Int
  condition : Condition
  holdReason : Option HoldReason
  vlimit : Bool
  truncated : Bool
  abandoned : Bool
  short : Bool
  driveFlag : Bool
  timing : TimingState
  syncPeers : Nat
deriving DecidableEq, Repr

/-- The record queue's state. -/
structure Records where
  queue : List CycleRecord
  discards : Nat
deriving DecidableEq, Repr

/-! ### Station port (chapters 9 and 10) -/

/-- The attention set (section 9.3). -/
structure Attention where
  records : Bool
  driveTrip : Bool
  driveLockout : Bool
  timingLost : Bool
  duplicateNumber : Bool
  regHold : Bool
  survey : Bool
deriving DecidableEq, Repr

/-- A reply: its code, the code of the command answered and the reply body (section 10.1). -/
structure Reply where
  code : ReplyCode
  command : Byte
  body : List Byte
deriving DecidableEq, Repr

/-- The station port's state. -/
structure Port where
  part : PartState
  state : PortState
  /-- the length byte of the frame in assembly -/
  length : Option Nat
  /-- the bytes received after the length byte -/
  bytes : List Byte
  lastByte : Nat
  reply : Option Reply
  /-- the elapsed tick at which the command was taken and its reply began -/
  replyTick : Nat
  /-- the commissioning record: parameter n at position n - 1 -/
  params : Vector Int 45
  /-- the own plan tag, computed at START (R175) -/
  planTag : Word16
  /-- line time to start from (R178) -/
  startTime : Nat
  errors : Nat
  attention : Attention
  /-- the ATTN output -/
  attn : Bool
deriving DecidableEq, Repr

/-- The sampled input lines, at their level in the latest tick (R68, R69, R110). -/
structure Lines where
  /-- CD is active -/
  cd : Bool
  /-- TPI is high -/
  tpi : Bool
deriving DecidableEq, Repr

/-- The whole part, and the queue of the commands that wait for it. -/
structure State where
  timer : Timer
  align : Align
  acq : Acq
  drive : Drive
  reg : Reg
  link : Link
  peers : List Peer
  survey : Survey
  records : Records
  port : Port
  lines : Lines
  /-- the model's own: free values used so far (logs 4, 16 and 31) -/
  draws : Nat
  /-- the commands waiting, first in, first out (log 1) -/
  pending : List Instr
deriving DecidableEq, Repr

/-! ### Power-on values -/

/-- The defaults of the commissioning record, parameters 1 to 45 (section 10.3). -/
def defaultParams : Vector Int 45 :=
  #v[0, 0, 400, 60, 0, 6, 30000, 0, 0, 3000, 500, 32, 2000, 40, 0, 0, 0, 0, 0, 0, 20000, 50000, 22000, 45000, 2, 64, 20,
    300, 3, 200, 0, 950, 850, 1150, 160, 5, 500, 0, 20000, 2000, 300, 100, 100, 30, 16]

/-- The line timer after power-on reset (R1 to R5, R7, R13, R19). -/
def Timer.reset : Timer where
  lineTime := 0
  elapsed := 0
  nextEpochEnd := none
  tally := 0
  epochWork := .nothing
  txPoint := none
  plan := .steady
  pair := none
  window := .noWindow
  markLow := false
  markStart := 0
  counted := false
  opened := 0

/-- The alignment unit after power-on reset (R97). -/
def Align.reset : Align where
  timing := .stopped
  root := 0
  acquireCount := 0
  lowerStreak := 0
  lostStreak := 0
  pendingCorr := 0
  lowRun := 0
  armed := false
  highRun := 0
  pulseStreak := 0
  lastPulse := none

/-- A FREE bank with an empty header (R33). -/
def Bank.empty : Bank where
  state := .free
  header := none
  entries := []

/-- The acquisition unit after power-on reset (R20, R33). -/
def Acq.reset : Acq where
  running := false
  slotStart := 0
  seq := 0
  slot := none
  pipe := none
  discardFirst := false
  current := none
  flushing := none
  pendingTake := false
  latestCurrent := 0
  bankA := Bank.empty
  bankB := Bank.empty
  newer := none

/-- The drive controller after power-on reset (R40). -/
def Drive.reset : Drive where
  state := .halted
  demand := 0
  setpointCode := 0
  rampTarget := 0
  backoff := 0
  rampTimer := 0
  retry := none
  retryCount := 0
  cleanRun := none
  cause := .noCause
  overRun := 0
  openRun := 0
  switchClosed := false

/-- The regulator after power-on reset (R121). -/
def Reg.reset : Reg where
  iSet := 0
  code := 0
  condition := .unknown
  amount := none
  holdReason := none
  holdCount := 0
  lastDepth := none
  driveAtOnRef := false

/-- The link controller after power-on reset (R62). -/
def Link.reset : Link where
  queue := []
  tx := .idle
  frame := none
  key := false
  keyStart := 0
  window := 16
  attempts := 0
  backoffEnd := 0
  idleCount := 0
  rx := .off
  toCentre := 0
  bits := []
  assembly := none
  crcTally := 0
  malformedTally := 0
  outOfSpanTally := 0
  txDropTally := 0

/-- The survey unit after power-on reset (R139). -/
def Survey.reset : Survey where
  table := []
  ownSeq := 0

/-- The record queue after power-on reset (R161). -/
def Records.reset : Records where
  queue := []
  discards := 0

/-- The empty attention set (R164). -/
def Attention.empty : Attention where
  records := false
  driveTrip := false
  driveLockout := false
  timingLost := false
  duplicateNumber := false
  regHold := false
  survey := false

/-- The station port after power-on reset (R173). -/
def Port.reset : Port where
  part := .setup
  state := .idle
  length := none
  bytes := []
  lastByte := 0
  reply := none
  replyTick := 0
  params := defaultParams
  planTag := 0
  startTime := 0
  errors := 0
  attention := Attention.empty
  attn := false

/-- The part right after power-on reset (R173), with no command waiting. -/
def State.reset : State where
  timer := Timer.reset
  align := Align.reset
  acq := Acq.reset
  drive := Drive.reset
  reg := Reg.reset
  link := Link.reset
  peers := []
  survey := Survey.reset
  records := Records.reset
  port := Port.reset
  lines := { cd := false, tpi := false }
  draws := 0
  pending := []

end Sys2Proof.Machine
end

