-- ==== Sys2Proof/Machine/LineTime.lean ====
section
/-! DEFINITION. Arithmetic of the spec: line-time order and differences (section 6.1 of 00_scope.md), elapsed-tick durations
(R2), rounding and clamping (section 6.3), dither (R8) and the positions of check notches (R9) and survey cycles (R11, R12). -/

namespace Sys2Proof.Machine

/-- A value taken modulo the line day (R1). -/
def dayMod (x : Int) : Nat := (x % (Config.day : Int)).toNat

/-- Line time a is before line time b when (b - a) mod 864,000,000 lies in 1 to 431,999,999. -/
abbrev before (a b : Nat) : Prop := 1 ≤ dayMod (b - a) ∧ dayMod (b - a) ≤ 431999999

/-- "At or past" a point means "not before" it. -/
abbrev atOrPast (t p : Nat) : Prop := ¬ before t p

/-- A signed line-time difference: x mod 864,000,000 taken in -432,000,000 to 431,999,999. -/
def signedDiff (x : Int) : Int := (x + 432000000) % (Config.day : Int) - 432000000

/-- The epoch number of a line time. -/
def epochOf (t : Nat) : Nat := t / Config.epoch

/-- The first multiple of 100,000 after t, in the line day (R3, R14, R17). -/
def multipleAfter (t : Nat) : Nat := (epochOf t + 1) * Config.epoch % Config.day

/-- The duration between two elapsed-tick values (R2). -/
def ticksSince (now start : Nat) : Nat := (now + Config.elapsedRange - start) % Config.elapsedRange

/-- The elapsed tick n ticks after `now` (R2). -/
def ticksAfter (now n : Nat) : Nat := (now + n) % Config.elapsedRange

/-- An elapsed-tick deadline has come: `now` is at it or less than half the range past it (DEDUCED, log 22). -/
abbrev elapsedReached (now deadline : Nat) : Prop := ticksSince now deadline < 2147483648

/-- Rounded quotient, halves away from zero (section 6.3), for a positive divisor. -/
def roundDiv (num : Int) (den : Nat) : Int :=
  if 0 ≤ num then (2 * num + den) / (2 * den) else -((2 * -num + den) / (2 * den))

/-- Clamped to [lo, hi] (section 6.3). -/
def clamp (lo hi x : Int) : Int := if x < lo then lo else if hi < x then hi else x

/-- One more, saturating at `top` (section 6.3). -/
def satSucc (top n : Nat) : Nat := if n < top then n + 1 else n

/-! ### Dither (R8) -/

/-- The dither for index n and span D (R8). -/
def ditherAt (d : Dither) (n span : Nat) : Nat :=
  match d with
  | .noDither => 0
  | .pseudo => (n * 40503 % 65536) * (span + 1) / 65536
  | .triangle =>
    let p := n % 16
    (if p ≤ 8 then p else 16 - p) * span / 8

/-! ### Check notches (R9, R10) -/

/-- The five plan parameters and the on-reference length that place check notches (R9). -/
structure NotchPlan where
  period : Nat
  offset : Nat
  dither : Dither
  ditherSpan : Nat
  length : Nat
  onRef : Nat
deriving DecidableEq, Repr

/-- Epoch n is a notch epoch (R9): counted from epoch 0 of the line day (R10). -/
abbrev NotchPlan.isNotch (p : NotchPlan) (n : Nat) : Prop := n % p.period = 0

/-- The off start of the notch of epoch n (R9). -/
def NotchPlan.offStart (p : NotchPlan) (n : Nat) : Nat :=
  n * Config.epoch + p.offset + ditherAt p.dither n p.ditherSpan

/-- The check notch of epoch n as a pair (R9). -/
def NotchPlan.pair (p : NotchPlan) (n serial : Nat) : Pair where
  kind := .check
  index := n
  survey := none
  onRefStart := dayMod (p.offStart n - p.onRef)
  offStart := dayMod (p.offStart n)
  offEnd := dayMod (p.offStart n + p.length)
  serial := serial

/-! ### Survey cycles (R11, R12) -/

/-- The end line time S + N x C (R5, R143). -/
def SurveyParams.naturalEnd (p : SurveyParams) : Nat := dayMod (p.start + p.cycles * p.cycle)

/-- The ticks from S to line time t, in the line day (R12, R140). -/
def SurveyParams.into (p : SurveyParams) (t : Nat) : Nat := dayMod (t - p.start)

/-- The cycle index at line time t (R12). -/
def SurveyParams.cycleAt (p : SurveyParams) (t : Nat) : Nat := p.into t / p.cycle

/-- The off start of cycle k (R11), before it is taken modulo the day. -/
def SurveyParams.offStart (p : SurveyParams) (k : Nat) : Int :=
  p.start + k * p.cycle + p.cycle - p.offLen - ditherAt p.dither k p.ditherSpan

/-- W_on_eff = min(W_on, C - F_s - D_s - 1,000) (R11). -/
def SurveyParams.onRefLen (p : SurveyParams) (wOn : Nat) : Nat :=
  min wOn (p.cycle - p.offLen - p.ditherSpan - 1000)

/-- Cycle k of a survey as a pair (R11). -/
def SurveyParams.pair (p : SurveyParams) (id : SurveyId) (wOn k serial : Nat) : Pair where
  kind := .survey
  index := k
  survey := some id
  onRefStart := dayMod (p.offStart k - p.onRefLen wOn)
  offStart := dayMod (p.offStart k)
  offEnd := dayMod (p.offStart k + p.offLen)
  serial := serial

end Sys2Proof.Machine
end

