-- ==== Sys2Proof/Machine/Commissioning.lean ====
section
/-! DEFINITION. The commissioning record: the ranges of section 10.3, reading and storing a parameter (R175 to R177), the
parameters by name, and the START constraints C1 to C7 (R179). -/

namespace Sys2Proof.Machine

/-- The commissioning record's type (section 10.3). -/
abbrev Params := Vector Int 45

/-- The lowest and highest value of parameters 1 to 45, in order (section 10.3). Choices are their encoded numbers
(section 11.2). Parameter 26 is listed values (R176). -/
def paramRanges : List (Int × Int) :=
  [(1, 4000), (0, 65535), (10, 1000), (0, 2000), (0, 1), (1, 60), (10000, 60000), (0, 2), (0, 20000), (1000, 8000),
    (200, 4000), (1, 256), (500, 5000), (5, 500), (-500, 500), (-200, 200), (-500, 500), (-200, 200), (-500, 500),
    (-200, 200), (1000, 50000), (10000, 100000), (1000, 62500), (1000, 100000), (1, 7), (8, 256), (1, 255)] ++
  [(60, 3600), (0, 7), (10, 5000), (0, 1), (500, 2000), (500, 2000), (500, 2000), (1, 4095), (0, 50), (10, 10000),
    (0, 50000), (0, 50000), (0, 50000), (10, 1000), (0, 300), (0, 300), (1, 255), (1, 64)]

/-- The six values of parameter 26 (R176). -/
def openFilterValues : List Int := [8, 16, 32, 64, 128, 256]

/-- A value lies in the range of parameter n (R175, R176); false for a number outside 1 to 45. -/
def paramInRange (n : Nat) (v : Int) : Bool :=
  match n with
  | 0 => false
  | k + 1 =>
    match paramRanges[k]? with
    | none => false
    | some (lo, hi) => decide (lo ≤ v ∧ v ≤ hi ∧ (k = 25 → v ∈ openFilterValues))

/-- The stored value of parameter n (R177); 0 for a number that is no parameter. -/
def Params.value (ps : Params) : Nat → Int
  | 0 => 0
  | k + 1 => (ps[k]?).getD 0

/-- Parameter n given the value v (R175). -/
def Params.store (ps : Params) (n : Nat) (v : Int) : Params :=
  match n with
  | 0 => ps
  | k + 1 => ps.setIfInBounds k v

/-- Parameter n as a number that is never negative. -/
def Params.nat (ps : Params) (n : Nat) : Nat := (ps.value n).toNat

/-- A dither type from its encoded number (section 11.2). -/
def ditherOfCode : Nat → Option Dither
  | 0 => some .noDither
  | 1 => some .pseudo
  | 2 => some .triangle
  | _ => none

def Params.station (ps : Params) : Nat := ps.nat 1
def Params.chainage (ps : Params) : Nat := ps.nat 2
def Params.hearingSpan (ps : Params) : Nat := ps.nat 3
def Params.linkLatency (ps : Params) : Nat := ps.nat 4
def Params.anchorPermitted (ps : Params) : Bool := decide (ps.value 5 = 1)

/-- The notch plan of parameters 6 to 10 and 13 (R9). -/
def Params.notchPlan (ps : Params) : NotchPlan where
  period := ps.nat 6
  offset := ps.nat 7
  dither := (ditherOfCode (ps.nat 8)).getD .noDither
  ditherSpan := ps.nat 9
  length := ps.nat 10
  onRef := ps.nat 13

def Params.settle (ps : Params) : Nat := ps.nat 11
def Params.offCount (ps : Params) : Nat := ps.nat 12
def Params.onRefLen (ps : Params) : Nat := ps.nat 13
def Params.strayLimit (ps : Params) : Int := ps.value 14
def Params.iFs (ps : Params) : Nat := ps.nat 21
def Params.vFs (ps : Params) : Nat := ps.nat 22
def Params.iTrip (ps : Params) : Int := ps.value 23
def Params.vLimit (ps : Params) : Int := ps.value 24
def Params.openFraction (ps : Params) : Int := ps.value 25
def Params.openFilter (ps : Params) : Nat := ps.nat 26
def Params.rampStep (ps : Params) : Nat := ps.nat 27
def Params.retryWait (ps : Params) : Nat := ps.nat 28
def Params.retryLimit (ps : Params) : Nat := ps.nat 29
def Params.leakLimit (ps : Params) : Int := ps.value 30
/-- Regulation mode FIXED (parameter 31, R120). -/
def Params.fixedMode (ps : Params) : Bool := decide (ps.value 31 = 1)
def Params.target (ps : Params) : Int := ps.value 32
def Params.pMin (ps : Params) : Int := ps.value 33
def Params.pMax (ps : Params) : Int := ps.value 34
def Params.gain (ps : Params) : Int := ps.value 35
def Params.deadband (ps : Params) : Int := ps.value 36
def Params.slew (ps : Params) : Int := ps.value 37
def Params.iFloor (ps : Params) : Int := ps.value 38
def Params.iCeil (ps : Params) : Int := ps.value 39
def Params.iInit (ps : Params) : Int := ps.value 40
def Params.assistSpan (ps : Params) : Nat := ps.nat 41
def Params.assistCap (ps : Params) : Int := ps.value 42
def Params.reliefCap (ps : Params) : Int := ps.value 43
def Params.holdAlarm (ps : Params) : Nat := ps.nat 44
def Params.recordThreshold (ps : Params) : Nat := ps.nat 45

/-- ceil(N_off x 8 / 7) (R28, R179). -/
def Params.offSlotsNeeded (ps : Params) : Nat := (ps.offCount * 8 + 6) / 7

/-- Constraint number n, 1 to 7, holds of the record (R179). -/
def Params.holds (ps : Params) : Nat → Bool
  | 1 => decide (ps.value 1 ≠ 0)
  | 2 => decide (ps.pMin < ps.target ∧ ps.target < ps.pMax)
  | 3 => decide (ps.iFloor ≤ ps.iInit ∧ ps.iInit ≤ ps.iCeil ∧ ps.iCeil ≤ ps.value 21)
  | 4 => decide (ps.iCeil < ps.iTrip ∧ ps.iTrip * 4 ≤ ps.value 21 * 5)
  | 5 => decide (ps.vLimit ≤ ps.value 22)
  | 6 => decide (ps.assistSpan ≤ ps.hearingSpan)
  | 7 => decide (ps.settle + ps.offSlotsNeeded * 5 ≤ ps.nat 10)
  | _ => true

/-- The first constraint that fails, in the order C1 to C7 (R179). -/
def Params.conflict (ps : Params) : Option Nat := [1, 2, 3, 4, 5, 6, 7].find? (fun n => !ps.holds n)

/-- The setpoint code of a current: current x 4,095 / I_fs, halves up, clamped to 0 to 4,095 (R57, R133). -/
def Params.codeOf (ps : Params) (current : Int) : Nat :=
  (clamp 0 4095 ((2 * current * 4095 + ps.iFs) / (2 * ps.iFs))).toNat

/-! ### Calibration (R23, R24) -/

/-- The corrected value of a raw code (R23, R24). -/
def Params.calibrate (ps : Params) (ch : Channel) (code : Int) : Int :=
  match ch with
  | .psp => clamp (-4000) 4000 (roundDiv (code * (10000 + ps.value 15)) 80000 + ps.value 16)
  | .outi =>
    clamp 0 (ps.iFs * 5 / 4 : Nat) (roundDiv (max 0 code * ps.iFs * (10000 + ps.value 17)) 327680000 + ps.value 18)
  | .outv =>
    clamp 0 ps.vFs (roundDiv (max 0 code * ps.vFs * (10000 + ps.value 19)) 327680000 + ps.value 20)

end Sys2Proof.Machine
end

