-- ==== Sys2Proof/Machine/Operands.lean ====
section
/-! DEFINITION. How operands and outputs travel: encoding rules (R184), named values (section 11.2), the two CRCs (R186), the
plan tag (R187), air frames (R64, R73, R78, R185), and the port's command and reply frames (section 11.5). -/

namespace Sys2Proof.Machine

/-! ### Fields (R184) -/

/-- A one-byte field. -/
def enc8 (n : Nat) : List Byte := [BitVec.ofNat 8 n]

/-- A two-byte field, most significant byte first. -/
def enc16 (n : Nat) : List Byte := [BitVec.ofNat 8 (n / 256), BitVec.ofNat 8 n]

/-- A four-byte field, most significant byte first. -/
def enc32 (n : Nat) : List Byte := enc16 (n / 65536) ++ enc16 n

/-- A signed two-byte field, two's complement. -/
def enc16s (v : Int) : List Byte := enc16 (v % 65536).toNat

/-- A signed four-byte field, two's complement. -/
def enc32s (v : Int) : List Byte := enc32 (v % 4294967296).toNat

/-- The byte at position i. -/
def u8 (bs : List Byte) (i : Nat) : Nat := (bs.getD i 0).toNat

/-- The unsigned field of two bytes at position i. -/
def u16 (bs : List Byte) (i : Nat) : Nat := u8 bs i * 256 + u8 bs (i + 1)

/-- The unsigned field of four bytes at position i. -/
def u32 (bs : List Byte) (i : Nat) : Nat := u16 bs i * 65536 + u16 bs (i + 2)

/-- The signed field of two bytes at position i. -/
def s16 (bs : List Byte) (i : Nat) : Int := if u16 bs i < 32768 then u16 bs i else (u16 bs i : Int) - 65536

/-- The signed field of four bytes at position i. -/
def s32 (bs : List Byte) (i : Nat) : Int :=
  if u32 bs i < 2147483648 then u32 bs i else (u32 bs i : Int) - 4294967296

/-! ### CRCs and the plan tag (R186, R187) -/

/-- The bits of a byte, most significant first (R63, R186). -/
def byteBits (b : Byte) : List Bool := [7, 6, 5, 4, 3, 2, 1, 0].map b.getLsbD

/-- One bit into the CRC-16 register (R186). -/
def crc16Bit (r : Word16) (bit : Bool) : Word16 := if r.msb = bit then r <<< 1 else (r <<< 1) ^^^ 0x1021

/-- The CRC-16 of some bytes (R186). -/
def crc16 (bs : List Byte) : Word16 := (bs.flatMap byteBits).foldl crc16Bit 0xFFFF

/-- One bit into the CRC-8 register (R186). -/
def crc8Bit (r : Byte) (bit : Bool) : Byte := if r.msb = bit then r <<< 1 else (r <<< 1) ^^^ 0x1D

/-- The CRC-8 of some bytes (R186). -/
def crc8 (bs : List Byte) : Byte := (bs.flatMap byteBits).foldl crc8Bit 0x00

/-- The encoded number of a dither type (section 11.2). -/
def Dither.code : Dither → Nat
  | .noDither => 0
  | .pseudo => 1
  | .triangle => 2

/-- The plan tag: the CRC-16 over K, O_n, dither type, D_n and F_n, with D_n as 0 under NONE (R187). -/
def NotchPlan.tag (p : NotchPlan) : Word16 :=
  crc16 (enc32 p.period ++ enc32 p.offset ++ enc32 p.dither.code ++
    enc32 (if p.dither = .noDither then 0 else p.ditherSpan) ++ enc32 p.length)

/-! ### Named values (section 11.2) -/

def PartState.code : PartState → Nat
  | .setup => 0
  | .running => 1

def TimingState.code : TimingState → Nat
  | .stopped => 0
  | .acquire => 1
  | .free => 2
  | .tracking => 3
  | .anchored => 4

/-- The timing states a STATUS frame may carry (R78): STOPPED is not one. -/
def TimingState.ofCode : Nat → Option TimingState
  | 1 => some .acquire
  | 2 => some .free
  | 3 => some .tracking
  | 4 => some .anchored
  | _ => none

def Plan.code : Plan → Nat
  | .steady => 0
  | .survey => 1

def Plan.ofCode : Nat → Option Plan
  | 0 => some .steady
  | 1 => some .survey
  | _ => none

def DriveState.code : DriveState → Nat
  | .halted => 0
  | .ramping => 1
  | .on => 2
  | .tripped => 3
  | .lockout => 4

def DriveState.ofCode : Nat → Option DriveState
  | 0 => some .halted
  | 1 => some .ramping
  | 2 => some .on
  | 3 => some .tripped
  | 4 => some .lockout
  | _ => none

def TripCause.code : TripCause → Nat
  | .noCause => 0
  | .overcurrent => 1
  | .openCircuit => 2
  | .switchStuck => 3

def Condition.code : Condition → Nat
  | .unknown => 0
  | .normal => 1
  | .short => 2
  | .excess => 3
  | .hold => 4

def Condition.ofCode : Nat → Option Condition
  | 0 => some .unknown
  | 1 => some .normal
  | 2 => some .short
  | 3 => some .excess
  | 4 => some .hold
  | _ => none

def HoldReason.code : HoldReason → Nat
  | .drive => 1
  | .abandoned => 2
  | .survey => 3
  | .unsyncPeer => 4
  | .stray => 5

def HoldReason.ofCode : Nat → Option HoldReason
  | 1 => some .drive
  | 2 => some .abandoned
  | 3 => some .survey
  | 4 => some .unsyncPeer
  | 5 => some .stray
  | _ => none

def NoticeAction.code : NoticeAction → Nat
  | .start => 1
  | .halt => 2

def EntryState.code : EntryState → Nat
  | .pending => 1
  | .active => 2
  | .ended => 3
  | .halted => 4
  | .superseded => 5
  | .ignored => 6

def BankState.code : BankState → Nat
  | .free => 0
  | .filling => 1
  | .sealed => 2
  | .held => 3

def BankId.code : BankId → Nat
  | .a => 0
  | .b => 1

def PairKind.code : PairKind → Nat
  | .check => 1
  | .survey => 2

def ReplyCode.code : ReplyCode → Nat
  | .ok => 0
  | .state => 1
  | .value => 2
  | .conflict => 3
  | .busy => 4
  | .unsync => 5
  | .origin => 6
  | .empty => 7
  | .unknown => 8

/-! ### Air frames (section 11.3) -/

/-- An optional field of a STATUS body: left out when absent (R184). -/
def encOpt {α : Type} (enc : α → List Byte) : Option α → List Byte
  | none => []
  | some x => enc x

/-- A survey identity: origin 2 bytes, sequence 1. -/
def SurveyId.enc (id : SurveyId) : List Byte := enc16 id.origin ++ enc8 id.seq

/-- The presence byte of a STATUS body, PEER LIST entry: bit 0 hold reason, 1 depth, 2 amount, 3 survey identity. -/
def presenceCode (hold depth amount survey : Bool) : Nat :=
  hold.toNat + depth.toNat * 2 + amount.toNat * 4 + survey.toNat * 8

/-- The body of a STATUS frame (section 11.3). -/
def Status.enc (f : Status) : List Byte :=
  enc8 1 ++ enc8 (presenceCode f.holdReason.isSome f.depth.isSome f.amount.isSome f.survey.isSome) ++
  enc16 f.station ++ enc16 f.chainage ++ enc16 f.planTag.toNat ++ enc32 f.stamp ++ enc8 f.timing.code ++
  enc16 f.root ++ enc8 f.plan.code ++ enc8 f.drive.code ++ enc16 f.current ++ enc8 f.condition.code ++
  encOpt (fun h => enc8 h.code) f.holdReason ++ encOpt enc16s f.depth ++ encOpt enc16 f.amount ++
  encOpt SurveyId.enc f.survey

/-- The body of a SURVEY NOTICE frame (section 11.3). -/
def Notice.enc (n : Notice) : List Byte :=
  enc8 2 ++ n.id.enc ++
  match n.body with
  | .start p =>
    enc8 NoticeAction.start.code ++ enc8 n.hops ++ enc16 n.spanFrom ++ enc16 n.spanTo ++ enc32 p.start ++
    enc32 p.cycle ++ enc16 p.offLen ++ enc8 p.dither.code ++ enc16 p.ditherSpan ++ enc16 p.cycles
  | .halt h =>
    enc8 NoticeAction.halt.code ++ enc8 n.hops ++ enc16 n.spanFrom ++ enc16 n.spanTo ++ enc32 h ++ [0, 0]

/-- The ranges and agreements that R78 asks of a STATUS frame's fields. Named values are checked where they are read. -/
abbrev Status.WellFormed (f : Status) : Prop :=
  (1 ≤ f.station ∧ f.station ≤ 4000) ∧ f.stamp < Config.day ∧ f.timing ≠ .stopped ∧ f.root ≤ 4000 ∧
  f.current ≤ 62500 ∧ (∀ d ∈ f.depth, -4000 ≤ d ∧ d ≤ 4000) ∧ (∀ a ∈ f.amount, 1 ≤ a ∧ a ≤ 6000) ∧
  (f.holdReason.isSome ↔ f.condition = .hold) ∧
  (f.amount.isSome ↔ (f.condition = .short ∨ f.condition = .excess)) ∧
  (f.survey.isSome ↔ f.plan = .survey) ∧ (∀ i ∈ f.survey, 1 ≤ i.origin ∧ i.origin ≤ 4000)

/-- The parameter rules that R78 asks of a START notice and R142 of SURVEY START: C, F_s, D_s and N in range,
F_s + D_s + 1,500 at most C and N x C at most 432,000,000. -/
abbrev SurveyParams.InRange (p : SurveyParams) : Prop :=
  (10000 ≤ p.cycle ∧ p.cycle ≤ 200000) ∧ (2000 ≤ p.offLen ∧ p.offLen ≤ 50000) ∧ p.ditherSpan ≤ 20000 ∧
  (1 ≤ p.cycles ∧ p.cycles ≤ 65535) ∧ p.offLen + p.ditherSpan + 1500 ≤ p.cycle ∧ p.cycles * p.cycle ≤ 432000000

/-- A line time that starts an epoch (R78). -/
abbrev epochStart (t : Nat) : Prop := t < Config.day ∧ t % Config.epoch = 0

/-- The parameter rules of a START notice and of a HALT notice (R78). -/
def NoticeBody.wellFormed : NoticeBody → Bool
  | .start p => decide (epochStart p.start ∧ p.InRange)
  | .halt h => decide (epochStart h)

/-- The ranges that R78 asks of a SURVEY NOTICE frame's fields. -/
abbrev Notice.WellFormed (n : Notice) : Prop :=
  (1 ≤ n.id.origin ∧ n.id.origin ≤ 4000) ∧ n.hops ≤ 15 ∧ n.spanFrom ≤ n.spanTo ∧ n.body.wellFormed

/-- A STATUS body read by the tables of section 11.3 and checked under R78 and R185; none when it is malformed. -/
def parseStatus (bs : List Byte) : Option Status :=
  let presence := bs.getD 1 0
  let hasHold := presence.getLsbD 0
  let hasDepth := presence.getLsbD 1
  let hasAmount := presence.getLsbD 2
  let hasSurvey := presence.getLsbD 3
  let atDepth := 20 + hasHold.toNat
  let atAmount := atDepth + hasDepth.toNat * 2
  let atSurvey := atAmount + hasAmount.toNat * 2
  match TimingState.ofCode (u8 bs 12), Plan.ofCode (u8 bs 15), DriveState.ofCode (u8 bs 16),
      Condition.ofCode (u8 bs 19), HoldReason.ofCode (u8 bs 20) with
  | some timing, some plan, some drive, some condition, hold? =>
    let f : Status :=
      { station := u16 bs 2
        chainage := u16 bs 4
        planTag := BitVec.ofNat 16 (u16 bs 6)
        stamp := u32 bs 8
        timing := timing
        root := u16 bs 13
        plan := plan
        drive := drive
        current := u16 bs 17
        condition := condition
        holdReason := if hasHold then hold? else none
        depth := if hasDepth then some (s16 bs atDepth) else none
        amount := if hasAmount then some (u16 bs atAmount) else none
        survey := if hasSurvey then some { origin := u16 bs atSurvey, seq := u8 bs (atSurvey + 2) } else none }
    if bs.length = atSurvey + hasSurvey.toNat * 3 ∧ (hasHold → hold?.isSome) ∧ f.WellFormed then some f else none
  | _, _, _, _, _ => none

/-- The action-dependent part of a SURVEY NOTICE body; none for a length that is not the action's, or an unknown action or
dither type (R78). -/
def parseNoticeBody (bs : List Byte) : Option NoticeBody :=
  if u8 bs 4 = 1 ∧ bs.length = 25 then
    (ditherOfCode (u8 bs 20)).map fun d =>
      .start { start := u32 bs 10, cycle := u32 bs 14, offLen := u16 bs 18, dither := d, ditherSpan := u16 bs 21,
               cycles := u16 bs 23 }
  else if u8 bs 4 = 2 ∧ bs.length = 16 then some (.halt (u32 bs 10))
  else none

/-- A SURVEY NOTICE body read and checked (section 11.3, R78); none when it is malformed. -/
def parseNotice (bs : List Byte) : Option Notice :=
  match parseNoticeBody bs with
  | none => none
  | some body =>
    let n : Notice :=
      { id := { origin := u16 bs 1, seq := u8 bs 3 }
        hops := u8 bs 5
        spanFrom := u16 bs 6
        spanTo := u16 bs 8
        body := body }
    if n.WellFormed then some n else none

/-- What a complete frame says. -/
inductive AirFrame
  | status (f : Status)
  | notice (n : Notice)
deriving DecidableEq, Repr

/-- The examination for form of R78; none when the frame is malformed. -/
def parseAir (body : List Byte) : Option AirFrame :=
  if u8 body 0 = 1 then (parseStatus body).map .status
  else if u8 body 0 = 2 then (parseNotice body).map .notice
  else none

/-- The bytes covered by a link frame's CRC: the length byte and the body (R64). -/
def airCovered (body : List Byte) : List Byte := enc8 body.length ++ body

/-- The 72 + 8L bits of a frame on air, in order: preamble, sync pattern, length byte, body, CRC (R64). -/
def airBits (body : List Byte) : List Bool :=
  (List.range 32).map (fun i => decide (i % 2 = 0)) ++
  (List.range 16).map (fun i => Config.syncPattern.getMsbD i) ++
  (airCovered body ++ enc16 (crc16 (airCovered body)).toNat).flatMap byteBits

/-- Elapsed ticks from KEY assertion to the tick in which the CRC's last bit ends, at 25/12 ticks a bit (R63, R71; DEDUCED from
section 4.7, log 20). -/
def keyedTicks (bodyLength : Nat) : Nat := Config.keyLead + 25 * (72 + 8 * bodyLength) / 12

/-! ### Port frames (section 11.5) -/

/-- A command that the port knows, with its parameters. -/
inductive PortCommand where
  | loadParameter (number : Nat) (value : Int)
  | readParameter (number : Nat)
  | setLineTime (time : Nat)
  | start
  | partStatus
  | readAttention
  | readRecords (count : Nat)
  | peerList
  | surveyList
  | captureOpen
  | captureFetch (first count : Nat)
  | captureClose
  | surveyStart (args : SurveyArgs)
  | surveyHalt
  | outputOff
  | outputOn
  | clearFault
  | restart
deriving DecidableEq, Repr

/-- The command codes of section 11.5. -/
def PortCommand.code : PortCommand → Byte
  | .loadParameter _ _ => 0x10
  | .readParameter _ => 0x11
  | .setLineTime _ => 0x12
  | .start => 0x13
  | .partStatus => 0x14
  | .readAttention => 0x15
  | .readRecords _ => 0x16
  | .peerList => 0x17
  | .surveyList => 0x18
  | .captureOpen => 0x19
  | .captureFetch _ _ => 0x1A
  | .captureClose => 0x1B
  | .surveyStart _ => 0x20
  | .surveyHalt => 0x21
  | .outputOff => 0x22
  | .outputOn => 0x23
  | .clearFault => 0x24
  | .restart => 0x2F

/-- The commands allowed in a part state (section 10.4). -/
def PortCommand.allowedIn (c : PortCommand) (part : PartState) : Bool :=
  match c with
  | .loadParameter _ _ | .setLineTime _ | .start => decide (part = .setup)
  | .surveyStart _ | .surveyHalt | .outputOff | .outputOn | .clearFault => decide (part = .running)
  | .readParameter _ | .partStatus | .readAttention | .readRecords _ | .peerList | .surveyList | .captureOpen
  | .captureFetch _ _ | .captureClose | .restart => true

/-- What a whole command frame asks (R171, checks 1 and 2). -/
inductive Parsed
  | unknown
  | badLength
  | command (c : PortCommand)
deriving DecidableEq, Repr

/-- A command that takes exactly n parameter bytes (R171). -/
def parsedAs (n : Nat) (ps : List Byte) (c : PortCommand) : Parsed :=
  if ps.length = n then .command c else .badLength

/-- A command code and its parameter bytes read by the table of section 11.5 (R171). -/
def parsePort (code : Byte) (ps : List Byte) : Parsed :=
  match code.toNat with
  | 0x10 => parsedAs 5 ps (.loadParameter (u8 ps 0) (s32 ps 1))
  | 0x11 => parsedAs 1 ps (.readParameter (u8 ps 0))
  | 0x12 => parsedAs 4 ps (.setLineTime (u32 ps 0))
  | 0x13 => parsedAs 0 ps .start
  | 0x14 => parsedAs 0 ps .partStatus
  | 0x15 => parsedAs 0 ps .readAttention
  | 0x16 => parsedAs 1 ps (.readRecords (u8 ps 0))
  | 0x17 => parsedAs 0 ps .peerList
  | 0x18 => parsedAs 0 ps .surveyList
  | 0x19 => parsedAs 0 ps .captureOpen
  | 0x1A => parsedAs 3 ps (.captureFetch (u16 ps 0) (u8 ps 2))
  | 0x1B => parsedAs 0 ps .captureClose
  | 0x20 =>
    parsedAs 18 ps (.surveyStart
      { lead := u16 ps 0, cycle := u32 ps 2, offLen := u16 ps 6, dither := u8 ps 8, ditherSpan := u16 ps 9,
        cycles := u16 ps 11, spanFrom := u16 ps 13, spanTo := u16 ps 15, hops := u8 ps 17 })
  | 0x21 => parsedAs 0 ps .surveyHalt
  | 0x22 => parsedAs 0 ps .outputOff
  | 0x23 => parsedAs 0 ps .outputOn
  | 0x24 => parsedAs 0 ps .clearFault
  | 0x2F => parsedAs 0 ps .restart
  | _ => .unknown

/-- The parameter bytes of a command (section 11.5). -/
def PortCommand.paramBytes : PortCommand → List Byte
  | .loadParameter n v => enc8 n ++ enc32s v
  | .readParameter n => enc8 n
  | .setLineTime t => enc32 t
  | .readRecords n => enc8 n
  | .captureFetch i n => enc16 i ++ enc8 n
  | .surveyStart a =>
    enc16 a.lead ++ enc32 a.cycle ++ enc16 a.offLen ++ enc8 a.dither ++ enc16 a.ditherSpan ++ enc16 a.cycles ++
      enc16 a.spanFrom ++ enc16 a.spanTo ++ enc8 a.hops
  | .start | .partStatus | .readAttention | .peerList | .surveyList | .captureOpen | .captureClose | .surveyHalt
  | .outputOff | .outputOn | .clearFault | .restart => []

/-- A port frame around a code and what follows it: start value, length, code, bytes, CRC-8 (section 10.1). -/
def portFrame (code : Byte) (rest : List Byte) : List Byte :=
  let covered := enc8 (1 + rest.length) ++ code :: rest
  Config.startByte :: covered ++ [crc8 covered]

/-- The frame the station computer sends for a command. -/
def PortCommand.frame (c : PortCommand) : List Byte := portFrame c.code c.paramBytes

/-- The frame that carries a reply (section 11.5). -/
def Reply.frame (r : Reply) : List Byte := portFrame (BitVec.ofNat 8 r.code.code) (r.command :: r.body)

/-! ### Reply bodies (section 11.5.1): an absent optional field is sent as zero (R184) -/

/-- A survey identity, absent as zero. -/
def encId (id : Option SurveyId) : List Byte := (id.getD { origin := 0, seq := 0 }).enc

/-- A hold reason, absent as zero. -/
def encHold (h : Option HoldReason) : List Byte := enc8 ((h.map HoldReason.code).getD 0)

/-- PEER LIST entry, 30 bytes, with the entry's age. -/
def Peer.enc (p : Peer) (age : Nat) : List Byte :=
  enc16 p.station ++ enc16 p.chainage ++ enc8 p.planMatch.toNat ++ enc8 p.timing.code ++ enc16 p.root ++
  enc32s p.offset ++ enc16 p.lastHeard ++ enc8 age ++ enc8 p.drive.code ++ enc16 p.current ++
  enc8 p.condition.code ++ enc8 (presenceCode p.holdReason.isSome p.depth.isSome p.amount.isSome p.survey.isSome) ++
  encHold p.holdReason ++ enc16s (p.depth.getD 0) ++ enc16 (p.amount.getD 0) ++ enc8 p.plan.code ++ encId p.survey ++
  enc8 p.heardCount

/-- SURVEY LIST entry, 38 bytes. -/
def SurveyEntry.enc (e : SurveyEntry) : List Byte :=
  let p := e.params.getD { start := 0, cycle := 0, offLen := 0, dither := .noDither, ditherSpan := 0, cycles := 0 }
  e.id.enc ++ enc8 e.state.code ++ enc8 (e.params.isSome.toNat + e.halt.isSome.toNat * 2) ++ enc16 e.spanFrom ++
  enc16 e.spanTo ++ enc32 p.start ++ enc32 p.cycle ++ enc16 p.offLen ++ enc8 p.dither.code ++ enc16 p.ditherSpan ++
  enc16 p.cycles ++ enc32 (e.halt.getD 0) ++ enc32 (e.endTime.getD 0) ++ enc8 e.relay.code ++ enc8 e.copiesLeft ++
  enc8 e.hops ++ enc8 e.heard ++ enc16 e.receipt

/-- The flag byte of a record or header: VLIMIT, TRUNCATED, ABANDONED, SHORT_CAPTURE, DRIVE at bits 0 to 4 (section 11.2). -/
def flagsCode (vlimit truncated abandoned short drive : Bool) : Nat :=
  vlimit.toNat + truncated.toNat * 2 + abandoned.toNat * 4 + short.toNat * 8 + drive.toNat * 16

/-- READ RECORDS record, 26 bytes. -/
def CycleRecord.enc (r : CycleRecord) : List Byte :=
  enc8 r.kind.code ++ enc16 r.index ++ encId r.survey ++
  enc8 (r.eOn.isSome.toNat + r.eOff.isSome.toNat * 2 + r.holdReason.isSome.toNat * 4) ++
  enc16s (r.eOn.getD 0) ++ enc16s (r.eOff.getD 0) ++ enc16 r.spread.toNat ++ enc16 r.iOn.toNat ++
  enc32 r.vOn.toNat ++ enc16 r.setpoint.toNat ++ enc8 r.condition.code ++ encHold r.holdReason ++
  enc8 (flagsCode r.vlimit r.truncated r.abandoned r.short r.driveFlag) ++ enc8 r.timing.code ++ enc8 r.syncPeers

/-- CAPTURE FETCH header, 12 bytes; the start index and the returned count are the command's. -/
def Bank.encHeader (b : Bank) (first returned : Nat) : List Byte :=
  let h := b.header.getD
    { kind := .check, index := 0, survey := none, truncated := false, abandoned := false, short := false }
  enc8 h.kind.code ++ enc16 h.index ++ encId h.survey ++ enc16 b.entries.length ++
  enc8 (flagsCode false h.truncated h.abandoned h.short false) ++ enc16 first ++ enc8 returned

/-- CAPTURE FETCH entry, 4 bytes. -/
def Entry.enc (e : Entry) : List Byte := enc16s e.value ++ enc16s e.slot

end Sys2Proof.Machine
end

