-- ==== Sys2Proof/Machine/Receiver.lean ====
section
/-! DEFINITION. The receiver's bits (R63, R74, R75): the recovered bit timing, the majority of three samples, and where a bit goes in
each receiver state. -/

namespace Sys2Proof.Machine

/-- The value of a bit: the majority of its three samples (R63). -/
def majority (r : RxLine) : Bool := (r.early && r.centre) || (r.early && r.late) || (r.centre && r.late)

/-- The byte of eight bits, the first of them the most significant (R63). -/
def byteOf (bits : List Bool) : Byte := bits.foldl (fun (b : Byte) bit => b <<< 1 ||| if bit then 1 else 0) 0

/-- The bits of a 16-bit pattern, the most significant first (R64). -/
def wordBits (w : Word16) : List Bool := (List.range 16).map fun i => w.getMsbD i

/-- A length byte that begins a body (R75). -/
abbrev validLength (n : Nat) : Prop := 16 ≤ n ∧ n ≤ 32

/-- The bits of a byte being taken with one more. -/
def Link.moreBits (l : Link) (bit : Bool) : List Bool := l.bits ++ [bit]

/-- A bit in HUNT: the last 16 are kept (R74). -/
def Link.huntBit (l : Link) (bit : Bool) : Link :=
  { l with bits := (l.moreBits bit).drop ((l.moreBits bit).length - 16) }

/-- A bit in LENGTH: the eighth makes the length byte, and a valid one begins the body (R75). After another the frame is only to be
abandoned, and takes no more bits. -/
def Link.lengthBit (l : Link) (bit : Bool) : Link :=
  if (l.moreBits bit).length < 8 then { l with bits := l.moreBits bit }
  else if 8 < (l.moreBits bit).length then l
  else if validLength (byteOf (l.moreBits bit)).toNat then
    { l with
      rx := .body
      bits := []
      assembly := l.assembly.map fun f => { f with length := some (byteOf (l.moreBits bit)).toNat } }
  else { l with bits := l.moreBits bit }

/-- The frame in assembly with one body byte more. -/
def RxFrame.takeBody (f : RxFrame) (b : Byte) : RxFrame := { f with body := f.body ++ [b] }

/-- The frame in assembly holds the body its length byte announced. -/
abbrev RxFrame.bodyDone (f : RxFrame) : Prop := ∃ n ∈ f.length, n ≤ f.body.length

/-- A bit in BODY: each eighth makes a body byte, and the last of them begins CHECK (R75). -/
def Link.bodyBit (l : Link) (bit : Bool) : Link :=
  if (l.moreBits bit).length < 8 then { l with bits := l.moreBits bit }
  else
    let assembly := l.assembly.map fun f => f.takeBody (byteOf (l.moreBits bit))
    { l with bits := [], assembly := assembly, rx := if ∃ f ∈ assembly, f.bodyDone then .check else .body }

/-- The frame in assembly with one CRC byte more, of the two that CHECK takes (R75). -/
def RxFrame.takeCrc (f : RxFrame) (b : Byte) : RxFrame :=
  if f.crc.length < 2 then { f with crc := f.crc ++ [b] } else f

/-- A bit in CHECK: each eighth makes a CRC byte (R75). -/
def Link.checkBit (l : Link) (bit : Bool) : Link :=
  if (l.moreBits bit).length < 8 then { l with bits := l.moreBits bit }
  else { l with bits := [], assembly := l.assembly.map fun f => f.takeCrc (byteOf (l.moreBits bit)) }

/-- The receiver takes a bit (R74, R75); OFF it takes none. -/
def Link.takeBit (l : Link) (bit : Bool) : Link :=
  match l.rx with
  | .off => l
  | .hunt => l.huntBit bit
  | .length => l.lengthBit bit
  | .body => l.bodyBit bit
  | .check => l.checkBit bit

/-- The centre of the coming bit: where a transition before it puts it, else as the timing ran on (R63). -/
def Link.centreFrom (l : Link) (r : RxLine) : Nat := r.retimed.getD l.toCentre

/-- The centre of the coming bit as a tick leaves it, in twelfths from the tick's start: where a transition after the bit taken in the
tick puts it, else one bit of 25/12 ticks after the centre of that bit; in a tick that takes no bit, where it was (R63). -/
def Link.centreAfter (l : Link) (r : RxLine) : Nat :=
  r.retimedAfter.getD (if l.centreFrom r < 12 then l.centreFrom r + Config.bitTwelfths else l.centreFrom r)

/-- One tick of the receiver: a bit whose centre falls in the tick is taken, and the timing runs on to the next centre, adjusted at each
transition (R63). In OFF, under KEY, no bit is taken, but the timing runs on, is still moved by transitions and is kept at KEY release, of
which R63 and R71 say nothing (DESIGN CHOICE, log 17). -/
def Link.rxTick (l : Link) (r : RxLine) : Link :=
  { (if l.centreFrom r < 12 then l.takeBit (majority r) else l) with toCentre := l.centreAfter r - 12 }

/-- In HUNT the last 16 bits taken are these, and they match the sync pattern (R74). -/
abbrev Link.syncMatched (l : Link) (bits : Word16) : Prop :=
  l.rx = .hunt ∧ l.bits = wordBits bits ∧ bits = Config.syncPattern

/-- In LENGTH this byte, outside 16 to 32, has been taken (R75). -/
abbrev Link.badLength (l : Link) (length : Byte) : Prop :=
  l.rx = .length ∧ l.bits = byteBits length ∧ ¬ validLength length.toNat

/-- The CRC's last bit has been taken, after this body and this CRC (R75). -/
abbrev Link.frameTaken (l : Link) (body : List Byte) (crc : Word16) : Prop :=
  l.rx = .check ∧ ∃ f ∈ l.assembly, f.body = body ∧ f.crc = enc16 crc.toNat

end Sys2Proof.Machine
end

