-- ==== Sys2Proof/Machine/Ops.lean ====
section
/-! DEFINITION. The named operations on the whole part's state: one setter per block, the occurrence of an event, the free
draws, and the views of the state that several blocks read. -/

namespace Sys2Proof.Machine

/-! ### One setter per block -/

def State.setTimer (s : State) (x : Timer) : State := { s with timer := x }
def State.setAlign (s : State) (x : Align) : State := { s with align := x }
def State.setAcq (s : State) (x : Acq) : State := { s with acq := x }
def State.setDrive (s : State) (x : Drive) : State := { s with drive := x }
def State.setReg (s : State) (x : Reg) : State := { s with reg := x }
def State.setLink (s : State) (x : Link) : State := { s with link := x }
def State.setPeers (s : State) (x : List Peer) : State := { s with peers := x }
def State.setSurvey (s : State) (x : Survey) : State := { s with survey := x }
def State.setRecords (s : State) (x : Records) : State := { s with records := x }
def State.setPort (s : State) (x : Port) : State := { s with port := x }
def State.setLines (s : State) (x : Lines) : State := { s with lines := x }
def State.setDraws (s : State) (x : Nat) : State := { s with draws := x }
def State.setPending (s : State) (x : List Instr) : State := { s with pending := x }

/-! ### Events -/

/-- An event row: its effect `t` in a state in which the spec says the event occurs, and nothing in any other state, where it
does not occur (DESIGN CHOICE, log 2, safe). -/
def event (due : Prop) [Decidable due] (s t : State) : Result State := .next (if due then t else s)

/-! ### Views -/

/-- The part is RUNNING (section 10.2). -/
abbrev State.running (s : State) : Prop := s.port.part = .running

/-- The commissioning record. -/
abbrev State.params (s : State) : Params := s.port.params

/-- The timing state lets the line timer open pairs (R6). -/
abbrev TimingState.opensPairs (t : TimingState) : Prop := t = .free ∨ t = .tracking ∨ t = .anchored

/-- VLIMIT: the voltage backoff is above 0 (R47). -/
abbrev Drive.vlimit (d : Drive) : Prop := 0 < d.backoff

/-- The bit on the transmit data line (R62, R63): the idle level one outside SENDING, and in SENDING the bit of the frame whose turn
it is at 25/12 ticks a bit from the preamble's start, a STATUS frame that is not built yet showing its preamble. That the line rests at
one in RUNNING too, in IDLE, DEFER, BACKOFF, the KEYED lead and after the last bit, is a DESIGN CHOICE (log 35): R62 names the idle level
for reset and SETUP. So is that a tick in which one bit ends and the next leaves shows the bit that stands at its start (log 35). -/
def State.txLine (s : State) : Bool :=
  if s.link.tx = .sending then
    let ticks := ticksSince s.timer.elapsed s.link.keyStart - Config.keyLead
    ((airBits ((s.link.frame.bind (·.body)).getD []))[ticks * 12 / 25]?).getD true
  else true

/-! ### Free draws (log 4) -/

/-- The draw r of R4, from 5,000 to 84,999. -/
def State.drawnStatusDelay (s : State) : Nat := 5000 + (Config.statusDraw s.draws).val

/-- The draw b of R69, from 0 to W - 1. -/
def State.drawnBackoff (s : State) : Nat := Config.backoffDraw s.draws % s.link.window

/-- One free value more is used. -/
def State.drawn (s : State) : State := s.setDraws (s.draws + 1)

end Sys2Proof.Machine
end

