-- ==== Sys2Proof/Machine/Flags.lean ====
section
/-! DEFINITION. The attention set and ATTN (R164, R166, R167), the saturating tallies of the link and the port (R80, R172), and
SWITCH, which R41 sets afresh whenever the drive state or the window state changes. -/

namespace Sys2Proof.Machine

/-! ### Attention -/

/-- The reason is in the set. -/
def Attention.has (a : Attention) : Reason → Bool
  | .records => a.records
  | .driveTrip => a.driveTrip
  | .driveLockout => a.driveLockout
  | .timingLost => a.timingLost
  | .duplicateNumber => a.duplicateNumber
  | .regHold => a.regHold
  | .survey => a.survey

/-- The set with a reason in it (R164). -/
def Attention.latch (a : Attention) : Reason → Attention
  | .records => { a with records := true }
  | .driveTrip => { a with driveTrip := true }
  | .driveLockout => { a with driveLockout := true }
  | .timingLost => { a with timingLost := true }
  | .duplicateNumber => { a with duplicateNumber := true }
  | .regHold => { a with regHold := true }
  | .survey => { a with survey := true }

/-- The attention byte (section 11.2). -/
def Attention.code (a : Attention) : Nat :=
  a.records.toNat + a.driveTrip.toNat * 2 + a.driveLockout.toNat * 4 + a.timingLost.toNat * 8 +
    a.duplicateNumber.toNat * 16 + a.regHold.toNat * 32 + a.survey.toNat * 64

/-- A reason is latched, and ATTN is asserted in the same event (R164, R166). -/
def State.latch (s : State) (r : Reason) : State :=
  s.setPort { s.port with attention := s.port.attention.latch r, attn := true }

/-- A reason is latched when a condition holds. -/
def State.latchIf (s : State) (cond : Prop) [Decidable cond] (r : Reason) : State :=
  if cond then s.latch r else s

/-- The set is emptied and ATTN released (R166, R167). -/
def State.clearAttention (s : State) : State :=
  s.setPort { s.port with attention := Attention.empty, attn := false }

/-! ### Tallies: 16-bit counts saturating at 65,535 -/

/-- The CRC tally rises (R77, R80). -/
def State.countCrc (s : State) : State :=
  s.setLink { s.link with crcTally := satSucc 65535 s.link.crcTally }

/-- The malformed tally rises (R78, R80). -/
def State.countMalformed (s : State) : State :=
  s.setLink { s.link with malformedTally := satSucc 65535 s.link.malformedTally }

/-- The out-of-span tally rises (R80, R83). -/
def State.countOutOfSpan (s : State) : State :=
  s.setLink { s.link with outOfSpanTally := satSucc 65535 s.link.outOfSpanTally }

/-- The transmit-drop tally rises (R66, R67, R70, R80). -/
def State.countTxDrop (s : State) : State :=
  s.setLink { s.link with txDropTally := satSucc 65535 s.link.txDropTally }

/-- The port error tally rises (R172). -/
def State.countPortError (s : State) : State :=
  s.setPort { s.port with errors := satSucc 65535 s.port.errors }

/-! ### SWITCH -/

/-- SWITCH is closed only while the drive state is RAMPING or ON and the window state is not OFF (R41). -/
def switchFor (d : DriveState) (w : WindowState) : Bool :=
  decide ((d = .ramping ∨ d = .on) ∧ w ≠ .off)

/-- SWITCH set afresh (R41). -/
def State.refreshSwitch (s : State) : State :=
  s.setDrive { s.drive with switchClosed := switchFor s.drive.state s.timer.window }

end Sys2Proof.Machine
end

