-- ==== Sys2Proof/Machine/RecordQueue.lean ====
section
/-! DEFINITION. The record queue (R161, R162) and its attention reason RECORDS (R165). -/

namespace Sys2Proof.Machine

/-- A record joins a queue (R161); when the queue already holds 64 records the oldest is discarded and counted (R162). -/
def Records.join (q : Records) (r : CycleRecord) : Records :=
  if q.queue.length < 64 then { q with queue := q.queue ++ [r] }
  else { queue := q.queue.tail ++ [r], discards := satSucc 255 q.discards }

/-- A record joins the record queue, and RECORDS is latched when the queue with it holds at least the threshold (R165). -/
def State.addRecord (s : State) (r : CycleRecord) : State :=
  let q := s.records.join r
  (s.setRecords q).latchIf (s.params.recordThreshold ≤ q.queue.length) .records

/-- The records that READ RECORDS removes, and the queue after it (R163). -/
def Records.read (q : Records) (n : Nat) : List CycleRecord × Records :=
  (q.queue.take n, { queue := q.queue.drop n, discards := 0 })

end Sys2Proof.Machine
end

