-- ==== Sys2Proof/Machine/DriveControl.lean ====
section
/-! DEFINITION. The drive controller (chapter 3): its states, ramping, voltage backoff, protection, trips, retries and lockout,
and the meanings of RAMP_TICK, RETRY_EXPIRY and CLEAN_RUN. -/

namespace Sys2Proof.Machine

/-- The ramp cap: the ramp target minus the backoff, or 0 when the backoff is the larger (R44). -/
def Drive.rampCap (d : Drive) : Nat := d.rampTarget - d.backoff

/-- The open-circuit filter is armed in ON at a demand of at least 205 codes (R50). -/
abbrev Drive.openArmed (d : Drive) : Prop := d.state = .on ∧ 205 ≤ d.demand

/-- When the open-circuit filter is disarmed its run returns to 0 in the same event (R50). -/
def Drive.checkOpenArmed (d : Drive) : Drive := if d.openArmed then d else { d with openRun := 0 }

/-- The demand follows the setpoint code, ramp target and backoff: in ON it is the code minus the backoff, in RAMPING it is
lowered to the ramp cap when it lies above it (R42, R43, R47). -/
def Drive.follow (d : Drive) : Drive :=
  match d.state with
  | .on => { d with demand := d.setpointCode - d.backoff }.checkOpenArmed
  | .ramping => { d with demand := min d.demand d.rampCap }
  | .halted | .tripped | .lockout => d

/-- A setpoint code arrives from the regulator (R43). -/
def Drive.takeCode (d : Drive) (code : Nat) : Drive :=
  let d := { d with setpointCode := code }
  (if d.state = .ramping then { d with rampTarget := code } else d).follow

/-- Entry to RAMPING (R44). -/
def Drive.enterRamping (d : Drive) : Drive :=
  { d with
    state := .ramping
    demand := 0
    rampTarget := d.setpointCode
    rampTimer := 0
    overRun := 0
    openRun := 0 }

/-- Entry to HALTED, TRIPPED or LOCKOUT (R42, R46), with the retry timer disarmed. -/
def Drive.shutDown (d : Drive) (goal : DriveState) : Drive :=
  { d with
    state := goal
    demand := 0
    backoff := 0
    rampTimer := 0
    overRun := 0
    openRun := 0
    cleanRun := none
    retry := none }

/-- Entry to ON at a ramp tick (R45, R46). -/
def Drive.enterOn (d : Drive) (now : Nat) : Drive :=
  { d with state := .on, cleanRun := some now }.follow

/-- The ramp tick (R45). -/
def Drive.rampStep (d : Drive) (step now : Nat) : Drive :=
  let stepped := { d with rampTimer := 0, demand := min (d.demand + step) d.rampCap }
  if stepped.demand = d.rampCap then stepped.enterOn now else stepped

/-- The ramp timer at a line tick: it counts in RAMPING while SWITCH is closed (R45), up to the 1,000 at which its ramp tick is
due (log 19). -/
def Drive.rampCount (d : Drive) : Drive :=
  if d.state = .ramping ∧ d.switchClosed then { d with rampTimer := satSucc Config.rampPeriod d.rampTimer } else d

/-- The backoff after an OUTV protection sample (R47). -/
def Drive.backoffAfter (d : Drive) (vLimit v : Int) : Nat :=
  if vLimit < v then min 4095 (d.backoff + 8) else if v * 100 < vLimit * 97 then d.backoff - 1 else d.backoff

/-- The drive controller is given a new state, and SWITCH is set afresh (R41). -/
def State.withDrive (s : State) (d : Drive) : State := (s.setDrive d).refreshSwitch

/-- Entry to LOCKOUT, which latches DRIVE_LOCKOUT (R51, R54). -/
def State.lockOut (s : State) (cause : TripCause) : State :=
  (s.withDrive { s.drive.shutDown .lockout with cause := cause }).latch .driveLockout

/-- A trip in RAMPING or ON (R51). -/
def State.trip (s : State) (cause : TripCause) : State :=
  if s.drive.retryCount < s.params.retryLimit then
    (s.withDrive
      { s.drive.shutDown .tripped with
        cause := cause
        retry := some (ticksAfter s.timer.elapsed (s.params.retryWait * 10000)) }).latch .driveTrip
  else s.lockOut cause

/-- An OUTI protection sample lies below the open-circuit threshold (R50): sample x 8 x 4,095 < demand x I_fs x f. -/
abbrev State.belowOpenThreshold (s : State) (v : Int) : Prop :=
  v * 8 * 4095 < (s.drive.demand * s.params.iFs : Nat) * s.params.openFraction

/-- An OUTI protection sample at the open-circuit filter (R50). -/
def State.openFilterSample (s : State) (v : Int) : State :=
  if s.drive.openArmed then
    if s.belowOpenThreshold v then
      if s.params.openFilter ≤ s.drive.openRun + 1 then s.trip .openCircuit
      else s.setDrive { s.drive with openRun := s.drive.openRun + 1 }
    else s.setDrive { s.drive with openRun := 0 }
  else s

/-- An OUTI protection sample: the overcurrent filter (R49) and then, when it did not trip, the open-circuit filter (R48). -/
def State.outiSample (s : State) (v : Int) : State :=
  if s.params.iTrip < v then
    if 2 ≤ s.drive.overRun + 1 then s.trip .overcurrent
    else (s.setDrive { s.drive with overRun := s.drive.overRun + 1 }).openFilterSample v
  else (s.setDrive { s.drive with overRun := 0 }).openFilterSample v

/-- An OUTV protection sample: the voltage backoff (R47). -/
def State.outvSample (s : State) (v : Int) : State :=
  s.setDrive { s.drive with backoff := s.drive.backoffAfter s.params.vLimit v }.follow

/-- A protection sample is used in RAMPING and ON and for nothing in the other states (R48). -/
def State.protectionSample (s : State) (ch : Channel) (v : Int) : State :=
  if s.drive.state = .ramping ∨ s.drive.state = .on then
    match ch with
    | .outi => s.outiSample v
    | .outv => s.outvSample v
    | .psp => s
  else s

/-- A stuck-switch report (R54). -/
def State.stuckSwitch (s : State) : State :=
  match s.drive.state with
  | .halted => s
  | .ramping | .on | .tripped => s.lockOut .switchStuck
  | .lockout => s.setDrive { s.drive with cause := .switchStuck }

/-! ### Events -/

/-- A ramp tick is due (R45). -/
abbrev State.rampTickDue (s : State) : Prop := s.drive.state = .ramping ∧ Config.rampPeriod ≤ s.drive.rampTimer

/-- RAMP_TICK (R45). -/
def execRampTick (s : State) : Result State :=
  event s.rampTickDue s (s.withDrive (s.drive.rampStep s.params.rampStep s.timer.elapsed))

/-- The retry timer has expired in TRIPPED (R52). -/
abbrev State.retryDue (s : State) : Prop :=
  s.drive.state = .tripped ∧ ∃ e ∈ s.drive.retry, elapsedReached s.timer.elapsed e

/-- RETRY_EXPIRY (R52). -/
def execRetryExpiry (s : State) : Result State :=
  event s.retryDue s
    (s.withDrive { s.drive with retryCount := s.drive.retryCount + 1, retry := none }.enterRamping)

/-- The drive has been ON for a clean run (R53). -/
abbrev State.cleanRunDue (s : State) : Prop :=
  s.drive.state = .on ∧ ∃ t ∈ s.drive.cleanRun, Config.cleanRunTicks ≤ ticksSince s.timer.elapsed t

/-- CLEAN_RUN (R53). -/
def execCleanRun (s : State) : Result State :=
  event s.cleanRunDue s (s.setDrive { s.drive with retryCount := 0, cleanRun := none })

end Sys2Proof.Machine
end

