-- ==== Sys2Proof/Machine/PeerTable.lean ====
section
/-! DEFINITION. The peer table (chapter 5): order, admission and replacement, ages, offset adjustment, and the peer sets that the
alignment unit and the regulator select from it. -/

namespace Sys2Proof.Machine

/-! ### Entries -/

/-- The distance of a chainage from the station's own, in chainage units (chapter 5). -/
def distance (ps : Params) (chainage : Nat) : Nat := ((chainage : Int) - ps.chainage).natAbs

/-- The age of an entry (R90). -/
def Peer.age (p : Peer) (tally : Nat) : Nat := (tally + 65536 - p.lastHeard) % 65536

/-- An entry is fresh while its age is 2 or less (R90). -/
abbrev Peer.fresh (p : Peer) (tally : Nat) : Prop := p.age tally ≤ 2

/-- A synchronized peer of a station with this root (R94). -/
abbrev Peer.synchronized (p : Peer) (tally root : Nat) : Prop :=
  p.fresh tally ∧ p.planMatch ∧ p.timing.opensPairs ∧ p.root = root

/-- A merge candidate for a station with this root (R106). -/
abbrev Peer.candidate (p : Peer) (tally root : Nat) : Prop :=
  p.fresh tally ∧ p.planMatch ∧ p.timing.opensPairs ∧ p.root < root

/-- An influence peer: fresh and within the assist span (R95). -/
abbrev Peer.influence (p : Peer) (ps : Params) (tally : Nat) : Prop :=
  p.fresh tally ∧ distance ps p.chainage ≤ ps.assistSpan

/-- The synchronized peers, as the table and the root stand (R94). -/
def State.syncPeers (s : State) : List Peer :=
  s.peers.filter fun p => decide (p.synchronized s.timer.tally s.align.root)

/-- The influence peers, as the table stands (R95). -/
def State.influencePeers (s : State) : List Peer :=
  s.peers.filter fun p => decide (p.influence s.params s.timer.tally)

/-- The count of influence peers that are synchronized peers (R137, R155). -/
def State.syncInfluence (s : State) : Nat :=
  (s.influencePeers.filter fun p => decide (p.synchronized s.timer.tally s.align.root)).length

/-! ### Table order (R81) -/

/-- p stands before q in table order: ascending chainage, then ascending station number (R81). -/
abbrev Peer.precedes (p q : Peer) : Prop :=
  p.chainage < q.chainage ∨ (p.chainage = q.chainage ∧ p.station < q.station)

/-- An entry put at the place the table order gives it (R81). -/
def insertPeer (p : Peer) : List Peer → List Peer
  | [] => [p]
  | q :: qs => if p.precedes q then p :: q :: qs else q :: insertPeer p qs

/-- The table without a station's entry. -/
def removePeer (station : Nat) (t : List Peer) : List Peer := t.filter fun p => decide (p.station ≠ station)

/-- The entry of a station. -/
def findPeer (station : Nat) (t : List Peer) : Option Peer := t.find? fun p => decide (p.station = station)

/-- p is farther than q: of greater distance or, at equal distance, of the higher station number (R88). -/
abbrev Peer.farther (ps : Params) (p q : Peer) : Prop :=
  distance ps q.chainage < distance ps p.chainage ∨
    (distance ps q.chainage = distance ps p.chainage ∧ q.station < p.station)

/-- The farthest entry of a table (R88). -/
def farthest (ps : Params) : List Peer → Option Peer
  | [] => none
  | p :: t =>
    match farthest ps t with
    | none => some p
    | some q => if p.farther ps q then some p else some q

/-! ### Admission (R82 to R88) -/

/-- The entry that an admitted frame writes (R84, R85). -/
def peerOf (f : Status) (receiveStamp : Nat) (s : State) (heard : Nat) : Peer where
  station := f.station
  chainage := f.chainage
  planMatch := decide (f.planTag = s.port.planTag)
  timing := f.timing
  root := f.root
  offset := signedDiff (f.stamp + s.params.linkLatency - receiveStamp)
  lastHeard := s.timer.tally
  drive := f.drive
  current := f.current
  condition := f.condition
  holdReason := f.holdReason
  amount := f.amount
  depth := f.depth
  plan := f.plan
  survey := f.survey
  heardCount := heard

/-- What becomes of a STATUS frame at the peer table. -/
inductive Admission
  /-- R82 -/
  | duplicate
  /-- R83 -/
  | outOfSpan
  /-- R88: no farther entry to replace -/
  | discarded
  /-- R86, R87, R88: the table after it and the entry written -/
  | admitted (table : List Peer) (entry : Peer)
deriving DecidableEq, Repr

/-- The peer table's checks, in the order of R82 to R88. -/
def admission (f : Status) (receiveStamp : Nat) (s : State) : Admission :=
  if f.station = s.params.station then .duplicate
  else if s.params.hearingSpan < distance s.params f.chainage then .outOfSpan
  else
    match findPeer f.station s.peers with
    | some old =>
      let p := peerOf f receiveStamp s (satSucc 255 old.heardCount)
      .admitted (insertPeer p (removePeer f.station s.peers)) p
    | none =>
      let p := peerOf f receiveStamp s 1
      if s.peers.length < 8 then .admitted (insertPeer p s.peers) p
      else
        match farthest s.params s.peers with
        | some q =>
          if distance s.params f.chainage < distance s.params q.chainage then
            .admitted (insertPeer p (removePeer q.station s.peers)) p
          else .discarded
        | none => .discarded

/-! ### Ageing and adjustment -/

/-- Entries of age 12 or more are removed (R91). -/
def State.removeAged (s : State) : State :=
  s.setPeers (s.peers.filter fun p => decide (p.age s.timer.tally < 12))

/-- Every stored offset reduced by a correction or step (R93). -/
def State.reduceOffsets (s : State) (c : Int) : State :=
  s.setPeers (s.peers.map fun p => { p with offset := signedDiff (p.offset - c) })

end Sys2Proof.Machine
end

