-- ==== Sys2Proof/Machine/Regulator.lean ====
section
/-! DEFINITION. The regulator (chapter 7): validity, peer terms, goal, setpoint, condition, CHECK records, and the SURVEY record
that the survey unit makes from the same parts (R155). -/

namespace Sys2Proof.Machine

/-! ### Validity (R122 to R125) -/

/-- The DRIVE condition of R122. -/
abbrev State.driveNotOn (s : State) : Prop := s.reg.driveAtOnRef = false ∨ s.drive.state ≠ .on

/-- The UNSYNC_PEER condition of R122 and R124, with the stored executed plan (log 14). -/
abbrev State.unsyncPeer (s : State) : Prop :=
  ∃ p ∈ s.influencePeers, ¬ p.synchronized s.timer.tally s.align.root ∨ p.plan ≠ s.timer.plan

/-- The hold reason of a check-notch reading, the first condition of R122 that applies; none for a valid reading. R122's order holds
under SURVEY too, where DRIVE and ABANDONED come before SURVEY, against the words of R136 and R185 (DEDUCED, log 36). The executed plan
read is the stored one: a regulation point in the tick in which line time reaches a survey's S, end or halt reads the plan as SURVEY_BEGIN
or SURVEY_END of that tick has left it or not yet changed it, in the sender's order (DESIGN CHOICE, log 14). -/
def State.holdReasonOf (s : State) (r : Reduction) : Option HoldReason :=
  if s.driveNotOn then some .drive
  else if r.abandoned then some .abandoned
  else if s.timer.plan = .survey then some .survey
  else if s.unsyncPeer then some .unsyncPeer
  else if s.params.strayLimit < r.spread ∨ r.short then some .stray
  else none

/-! ### The goal (R128, R129) -/

/-- A peer term: floor(a x (A - d) / 2A) (R128). -/
def Peer.term (p : Peer) (ps : Params) : Nat :=
  (p.amount.getD 0) * (ps.assistSpan - distance ps p.chainage) / (2 * ps.assistSpan)

/-- The sum of the terms of the influence peers that report a condition (R128). -/
def State.peerTerms (s : State) (c : Condition) : Nat :=
  ((s.influencePeers.filter fun p => decide (p.condition = c)).map fun p => p.term s.params).sum

/-- P_goal (R129). -/
def State.goal (s : State) : Int :=
  clamp s.params.pMin s.params.pMax
    (s.params.target + min (s.peerTerms .short : Int) s.params.assistCap -
      min (s.peerTerms .excess : Int) s.params.reliefCap)

/-! ### The setpoint (R130 to R132) -/

/-- The change before its clamps (R130). -/
def Params.rawDelta (ps : Params) (e : Int) : Int :=
  if (e.natAbs : Int) ≤ ps.deadband then 0 else roundDiv (e * ps.gain) 16

/-- The change Δ after deadband, slew and VLIMIT (R130, R131). -/
def State.delta (s : State) (depth : Int) : Int :=
  let slewed := clamp (-s.params.slew) s.params.slew (s.params.rawDelta (s.goal - depth))
  if s.drive.vlimit then min slewed 0 else slewed

/-- I_new at a valid reading in AUTO mode (R132). -/
def State.newSetpoint (s : State) (depth : Int) : Int :=
  clamp s.params.iFloor s.params.iCeil (s.reg.iSet + s.delta depth)

/-! ### The condition (R134) -/

/-- The condition and amount at a valid reading (R134). -/
def Params.judge (ps : Params) (depth iNew : Int) (vlimit : Bool) : Condition × Option Nat :=
  if depth < ps.pMin ∧ (ps.fixedMode ∨ iNew = ps.iCeil ∨ vlimit) then (.short, some (ps.pMin - depth).toNat)
  else if ps.pMax < depth ∧ (ps.fixedMode ∨ iNew = ps.iFloor) then (.excess, some (depth - ps.pMax).toNat)
  else (.normal, none)

/-! ### Records (R137, R155, R159) -/

/-- A cycle record of a reduction, filled from the blocks as they stand (R137, R155). -/
def State.recordOf (s : State) (r : Reduction) (driveFlag : Bool) : CycleRecord where
  kind := r.kind
  index := r.index
  survey := r.survey
  eOn := r.eOn
  eOff := r.eOff
  spread := r.spread
  iOn := r.iOn
  vOn := r.vOn
  setpoint := s.reg.iSet
  condition := s.reg.condition
  holdReason := s.reg.holdReason
  vlimit := decide s.drive.vlimit
  truncated := r.truncated
  abandoned := r.abandoned
  short := r.short
  driveFlag := driveFlag
  timing := s.align.timing
  syncPeers := s.syncInfluence

/-! ### The regulation point (R118) -/

/-- The regulator's state after a held reading (R126). -/
def Reg.held (g : Reg) (h : HoldReason) : Reg :=
  { g with
    holdCount := satSucc 255 g.holdCount
    condition := .hold
    holdReason := some h
    amount := none }

/-- A held reading brings the hold count to the hold alarm count (R126). -/
abbrev State.reachesHoldAlarm (s : State) : Prop :=
  satSucc 255 s.reg.holdCount = s.params.holdAlarm ∧ s.reg.holdCount ≠ s.params.holdAlarm

/-- The setpoint that a valid reading leaves: I_new in AUTO, I_set unchanged in FIXED (R120, R132). -/
def State.setpointAfter (s : State) (depth : Int) : Int :=
  if s.params.fixedMode then s.reg.iSet else s.newSetpoint depth

/-- The regulator's state after a valid reading of this depth (R127, R132 to R134). -/
def State.regAfterValid (s : State) (depth : Int) : Reg :=
  let iNew := s.setpointAfter depth
  let judged := s.params.judge depth iNew (decide s.drive.vlimit)
  { s.reg with
    iSet := iNew
    code := if s.params.fixedMode then s.reg.code else s.params.codeOf iNew
    condition := judged.1
    amount := judged.2
    holdReason := none
    holdCount := 0
    lastDepth := some depth }

/-- In AUTO mode the regulator hands its setpoint code to the drive controller, in FIXED it does not (R120, R133). -/
def State.handCode (s : State) : State :=
  if s.params.fixedMode then s else s.setDrive (s.drive.takeCode s.reg.code)

/-- A regulation point (R118): validity, setpoint or hold, condition, code, CHECK record, REG_HOLD. -/
def State.regulate (s : State) (r : Reduction) : State :=
  let driveFlag := decide s.driveNotOn
  let done :=
    match s.holdReasonOf r with
    | some h => (s.setReg (s.reg.held h)).latchIf s.reachesHoldAlarm .regHold
    | none => s.setReg (s.regAfterValid (-(r.eOff.getD 0)))
  done.handCode.addRecord (done.recordOf r driveFlag)

/-- The note of the drive state at a check pair's on-reference start (R119). -/
def State.noteDrive (s : State) : State :=
  s.setReg { s.reg with driveAtOnRef := decide (s.drive.state = .on) }

/-- The executed plan becomes SURVEY: the condition becomes HOLD with reason SURVEY (R136). -/
def State.holdForSurvey (s : State) : State :=
  s.setReg { s.reg with condition := .hold, holdReason := some .survey, amount := none }

/-- A survey reduction makes its SURVEY record (R155). -/
def State.surveyReduction (s : State) (r : Reduction) : State :=
  s.addRecord (s.recordOf r (decide (s.drive.state ≠ .on)))

/-- A reduction goes to the regulator or to the survey unit by its kind (R29). -/
def State.handOver (s : State) (r : Reduction) : State :=
  match r.kind with
  | .check => s.regulate r
  | .survey => s.surveyReduction r

end Sys2Proof.Machine
end

