-- ==== Sys2Proof/Machine/Acquisition.lean ====
section
/-! DEFINITION. The acquisition unit (chapter 2): slots and tags, attribution of samples, on-reference and off reductions, capture
banks, abandonment, and the meaning of CONVERSION_SLOT. -/

namespace Sys2Proof.Machine

/-! ### Capture banks (R33, R34, R37) -/

def Acq.bank (a : Acq) : BankId → Bank
  | .a => a.bankA
  | .b => a.bankB

def Acq.setBank (a : Acq) (id : BankId) (x : Bank) : Acq :=
  match id with
  | .a => { a with bankA := x }
  | .b => { a with bankB := x }

/-- The other bank. -/
def BankId.other : BankId → BankId
  | .a => .b
  | .b => .a

/-- The bank a pair takes (R34): a FREE one, A before B; else a SEALED one, the one sealed longer ago of two; none while neither
may be taken. -/
def Acq.takeable (a : Acq) : Option BankId :=
  if a.bankA.state = .free then some .a
  else if a.bankB.state = .free then some .b
  else if a.bankA.state = .sealed ∧ a.bankB.state = .sealed then some (if a.newer = some .a then .b else .a)
  else if a.bankA.state = .sealed then some .a
  else if a.bankB.state = .sealed then some .b
  else none

/-- The header a bank receives when a pair takes it (R34). -/
def Pair.header (p : Pair) : Header where
  kind := p.kind
  index := p.index
  survey := p.survey
  truncated := false
  abandoned := false
  short := false

/-- A bank just taken by a pair: FILLING, emptied, with the pair's header (R34). -/
def Pair.takenBank (p : Pair) : Bank where
  state := .filling
  header := some p.header
  entries := []

/-- The pair in progress takes a bank, or its take is left pending (R34). -/
def Acq.take (a : Acq) (w : PairWork) : Acq :=
  match a.takeable with
  | some id => { a.setBank id w.pair.takenBank with current := some { w with bank := some id }, pendingTake := false }
  | none => { a with current := some { w with bank := none }, pendingTake := true }

/-- A pending take is made when a bank can be taken (R34). -/
def Acq.makePendingTake (a : Acq) : Acq :=
  match a.pendingTake, a.current with
  | true, some w => a.take w
  | _, _ => a

/-- A bank is sealed, with the flags its header then carries, and becomes the more recently sealed (R33, R37). -/
def Acq.sealBank (a : Acq) (id : BankId) (short abandoned : Bool) : Acq :=
  let b := a.bank id
  { a.setBank id
      { b with
        state := .sealed
        header := b.header.map fun h => { h with short := short, abandoned := abandoned } } with
    newer := some id }

/-- A PSP sample joins a bank as its next entry, or marks a full bank TRUNCATED (R36). -/
def Bank.write (b : Bank) (e : Entry) : Bank :=
  if b.entries.length < 512 then { b with entries := b.entries ++ [e] }
  else { b with header := b.header.map fun h => { h with truncated := true } }

/-- Some entries are written to a bank in order (R35, R36). -/
def Acq.writeBank (a : Acq) (id : Option BankId) (es : List Entry) : Acq :=
  match id with
  | none => a
  | some i => a.setBank i (es.foldl Bank.write (a.bank i))

/-- The TRUNCATED flag that a pair's reduction carries: its bank's (R29, R36). -/
def Acq.truncatedIn (a : Acq) (id : Option BankId) : Bool :=
  match id with
  | none => false
  | some i => ((a.bank i).header.map (·.truncated)).getD false

/-! ### Sums and reductions (R26 to R29) -/

/-- A value added to a sum. -/
def Sum.add (x : Sum) (v : Int) : Sum where
  total := x.total + v
  count := x.count + 1

/-- A rounded mean (R26, R27). -/
def Sum.mean (x : Sum) : Int := roundDiv x.total x.count

/-- Sums of nothing. -/
def OnSums.empty : OnSums := { psp := ⟨0, 0⟩, outi := ⟨0, 0⟩, outv := ⟨0, 0⟩ }

/-- A sample added to the sum of its channel (R26). -/
def OnSums.add (x : OnSums) (ch : Channel) (v : Int) : OnSums :=
  match ch with
  | .psp => { x with psp := x.psp.add v }
  | .outi => { x with outi := x.outi.add v }
  | .outv => { x with outv := x.outv.add v }

/-- E_on, I_on and V_on (R26); none when a channel has no sample, so that the reduction was not completed (log 21). -/
def OnSums.figures (x : OnSums) : Option OnFigures :=
  if x.psp.count = 0 ∨ x.outi.count = 0 ∨ x.outv.count = 0 then none
  else some { eOn := x.psp.mean, iOn := x.outi.mean, vOn := x.outv.mean }

/-- The empty off-sample set. -/
def OffSet.empty : OffSet := { total := 0, count := 0, low := 0, high := 0 }

/-- A member joins the off-sample set (R27). -/
def OffSet.add (x : OffSet) (v : Int) : OffSet where
  total := x.total + v
  count := x.count + 1
  low := if x.count = 0 then v else min x.low v
  high := if x.count = 0 then v else max x.high v

/-- E_off: the rounded mean of the set, absent when none were gathered (R27, R28). -/
def OffSet.mean (x : OffSet) : Option Int := if x.count = 0 then none else some (roundDiv x.total x.count)

/-- The spread of the set, 0 for an empty one (R27, R28). -/
def OffSet.spread (x : OffSet) : Int := if x.count = 0 then 0 else x.high - x.low

/-- What is gathered for a pair that has just opened (R26, R27). -/
def PairWork.opened (p : Pair) : PairWork where
  pair := p
  onSums := OnSums.empty
  figures := none
  ring := []
  onSlots := 0
  offStart := 0
  offSet := OffSet.empty
  bank := none

/-- An on-reference sample is credited to its pair (R26), and a PSP sample joins the ring of the newest 64 (R35). -/
def PairWork.creditOn (w : PairWork) (t : Tag) (v : Int) : PairWork :=
  { w with
    onSums := w.onSums.add t.channel v
    ring :=
      if t.channel = .psp then
        let r := w.ring ++ [{ value := v, slot := (t.seq : Int) }]
        r.drop (r.length - 64)
      else w.ring }

/-- A PSP sample of the off window is offered to the off reduction (R27). -/
def PairWork.creditOff (w : PairWork) (ps : Params) (t : Tag) (v : Int) : PairWork :=
  if ps.settle ≤ t.offset ∧ w.offSet.count < ps.offCount then { w with offSet := w.offSet.add v } else w

/-- The set is short (R28). -/
abbrev PairWork.short (w : PairWork) (ps : Params) : Prop := w.offSet.count < ps.offCount

/-- The reduction of a pair that ran to its off end (R29). -/
def PairWork.reduction (w : PairWork) (ps : Params) (truncated : Bool) : Reduction where
  kind := w.pair.kind
  index := w.pair.index
  survey := w.pair.survey
  eOn := w.figures.map (·.eOn)
  iOn := (w.figures.map (·.iOn)).getD 0
  vOn := (w.figures.map (·.vOn)).getD 0
  eOff := w.offSet.mean
  spread := w.offSet.spread
  setCount := w.offSet.count
  short := decide (w.short ps)
  truncated := truncated
  abandoned := false

/-- The reduction of an abandoned pair: the off sums are discarded (R30). -/
def PairWork.abandonedReduction (w : PairWork) (ps : Params) (truncated : Bool) : Reduction :=
  { w.reduction ps truncated with eOff := none, spread := 0, setCount := 0, abandoned := true }

/-- The ring's entries as the bank takes them: slot numbers relative to the off start (R35). -/
def PairWork.ringEntries (w : PairWork) : List Entry := w.ring.map fun e => { e with slot := e.slot - w.onSlots }

/-! ### Slots (R20 to R22) -/

/-- The channel converted in slot number n of a window state (R21). -/
def channelFor (w : WindowState) (n : Nat) : Channel :=
  match w with
  | .noWindow => if n % 2 = 0 then .outi else .outv
  | .onReference => if n % 3 = 0 then .psp else if n % 3 = 1 then .outi else .outv
  | .off => if n % 8 = 7 then .outi else .psp

/-- The tags of a slot that starts now (R21, R22). -/
def State.slotTag (s : State) : Tag where
  channel := channelFor s.timer.window s.acq.seq
  role := s.timer.window
  pair := s.timer.pair.map (·.serial)
  offset :=
    match s.timer.window, s.acq.current with
    | .off, some w => ticksSince s.acq.slotStart w.offStart
    | _, _ => 0
  switchClosed := s.drive.switchClosed
  seq := s.acq.seq

/-- A slot starts (R21, R22). -/
def State.beginSlot (s : State) : State :=
  s.setAcq { s.acq with slot := some s.slotTag, seq := s.acq.seq + 1 }

/-- A slot has started at this very tick. -/
abbrev State.slotStartsNow (s : State) : Prop := s.acq.slot.isSome ∧ s.acq.slotStart = s.timer.elapsed

/-- The window state has changed: the sequence count returns to 0, and a slot that starts at this tick is the new state's slot 0
(R21: a window event holds for the whole of its tick; DEDUCED, log 11). -/
def State.windowChanged (s : State) : State :=
  let s := s.setAcq { s.acq with seq := 0 }
  if s.slotStartsNow then s.beginSlot else s

/-! ### Deliveries (R25, R31, R32) -/

/-- A sample is credited to the role and pair of its tags (R25 to R27, R36). -/
def Acq.credit (a : Acq) (ps : Params) (t : Tag) (v : Int) : Acq :=
  match t.role with
  | .noWindow => a
  | .onReference =>
    match a.current with
    | some w => if t.pair = some w.pair.serial then { a with current := some (w.creditOn t v) } else a
    | none => a
  | .off =>
    if t.channel ≠ .psp then a
    else
      let entry : Entry := { value := v, slot := (t.seq : Int) }
      match a.current, a.flushing with
      | some w, f =>
        if t.pair = some w.pair.serial then
          { a.writeBank w.bank [entry] with current := some (w.creditOff ps t v) }
        else
          match f with
          | some x =>
            if t.pair = some x.pair.serial then
              { a.writeBank x.bank [entry] with flushing := some (x.creditOff ps t v) }
            else a
          | none => a
      | none, some x =>
        if t.pair = some x.pair.serial then
          { a.writeBank x.bank [entry] with flushing := some (x.creditOff ps t v) }
        else a
      | none, none => a

/-- A protection sample (R31). -/
abbrev Tag.isProtection (t : Tag) : Prop := t.channel ≠ .psp ∧ t.switchClosed

/-- A switch-verify sample whose value reports a stuck switch (R32). -/
abbrev Tag.reportsStuck (t : Tag) (ps : Params) (v : Int) : Prop :=
  t.channel = .outi ∧ t.role = .off ∧ t.seq % 8 = 7 ∧ 20 ≤ t.offset ∧ ps.leakLimit < v

/-- A sample is delivered: calibrated, credited, and handed to the drive controller as its tags direct (R22, R25, R31, R32). -/
def State.deliver (s : State) (c : Conversion) : State :=
  let v := s.params.calibrate c.tag.channel c.code
  let s := s.setAcq (s.acq.credit s.params c.tag v)
  let s := if c.tag.isProtection then s.protectionSample c.tag.channel v else s
  if c.tag.reportsStuck s.params v then s.stuckSwitch else s

/-- The delivery at a slot's end: the first after START is discarded and clears the mark (R22). -/
def State.deliverPipe (s : State) : State :=
  if s.acq.discardFirst then s.setAcq { s.acq with discardFirst := false, pipe := none }
  else
    match s.acq.pipe with
    | some c => s.deliver c
    | none => s

/-! ### Completions (R25, R26, R29, R35, R37) -/

/-- The slot that ends is slot 0 of the off window of the pair in progress: the on-reference flush slot (R25). -/
abbrev PairWork.isOnFlush (w : PairWork) (ended : Tag) : Prop :=
  ended.role = .off ∧ ended.seq = 0 ∧ ended.pair = some w.pair.serial

/-- The on-reference reduction is complete: its figures are formed, I_on becomes the latest on-reference current, and the ring
is written into the pair's bank (R26, R35). -/
def Acq.completeOn (a : Acq) (w : PairWork) : Acq :=
  let figures := w.onSums.figures
  { a.writeBank w.bank w.ringEntries with
    current := some { w with figures := figures }
    latestCurrent := (figures.map (·.iOn.toNat)).getD a.latestCurrent }

/-- The on-reference completion at the end of a slot (R25). -/
def Acq.checkOn (a : Acq) (ended : Tag) : Acq :=
  match a.current with
  | some w => if w.isOnFlush ended then a.completeOn w else a
  | none => a

/-- A pair's bank is sealed at its reduction-complete event (R37). -/
def Acq.sealFor (a : Acq) (w : PairWork) (ps : Params) (abandoned : Bool) : Acq :=
  match w.bank with
  | some id => a.sealBank id (decide (w.short ps)) abandoned
  | none => a

/-- A pair's reduction-complete event: its bank is sealed, a pending take is made, and its reduction is handed over (R25, R29,
R34, R37). -/
def State.completeOff (s : State) (w : PairWork) : State :=
  let r := w.reduction s.params (s.acq.truncatedIn w.bank)
  let a := { s.acq.sealFor w s.params false with flushing := none }
  (s.setAcq a.makePendingTake).handOver r

/-- The slot that ends is the flush slot of the pair w whose off window has ended: it is no slot of that off window (R25). -/
abbrev PairWork.flushEnds (w : PairWork) (ended : Tag) : Prop := ¬ (ended.role = .off ∧ ended.pair = some w.pair.serial)

/-- The off completion at the end of a slot (R25). -/
def State.checkOff (s : State) (ended : Tag) : State :=
  match s.acq.flushing with
  | some w => if w.flushEnds ended then s.completeOff w else s
  | none => s

/-- The conversion that is delivered at this slot's end reports a stuck switch (R22, R32). -/
abbrev State.stuckDelivered (s : State) : Prop :=
  s.acq.discardFirst = false ∧
    ∃ c ∈ s.acq.pipe, c.tag.reportsStuck s.params (s.params.calibrate c.tag.channel c.code)

/-- A stuck-switch report and a reduction-complete event come at the same slot's end, so that either may be taken first (R123). -/
abbrev State.eitherOrder (s : State) (ended : Tag) : Prop :=
  s.stuckDelivered ∧ ∃ w ∈ s.acq.flushing, w.flushEnds ended

/-- The completions at the end of a slot (R25). -/
def State.completions (s : State) (ended : Tag) : State := (s.setAcq (s.acq.checkOn ended)).checkOff ended

/-- The delivery and the completions at the end of a slot. The delivery comes first (log 10), but for a stuck-switch report at the
instant of the regulation point, whose order R123 leaves open: a free value decides (log 31). -/
def State.deliverAndComplete (s : State) (ended : Tag) : State :=
  if s.eitherOrder ended then
    if Config.pointFirst s.draws then (s.drawn.completions ended).deliverPipe
    else s.drawn.deliverPipe.completions ended
  else s.deliverPipe.completions ended

/-- A slot ends: its predecessor's result is delivered, completions are made, its own conversion enters the pipeline stage, and
the next slot starts (R20 to R22, R25). -/
def State.endSlot (s : State) (code : Int) : State :=
  match s.acq.slot with
  | none => s
  | some ended =>
    let s := s.deliverAndComplete ended
    let s := s.setAcq
      { s.acq with
        pipe := some { tag := ended, code := code }
        slotStart := ticksAfter s.acq.slotStart Config.slotTicks }
    s.beginSlot

/-- A conversion slot has run its 5 ticks (R20). -/
abbrev State.slotDue (s : State) : Prop :=
  s.acq.running ∧ Config.slotTicks ≤ ticksSince s.timer.elapsed s.acq.slotStart

/-- CONVERSION_SLOT (R22). -/
def execConversionSlot (code : Int) (s : State) : Result State := event s.slotDue s (s.endSlot code)

/-! ### Window events as the acquisition unit takes them -/

/-- A pair opens: its sums and ring are empty and it takes a bank (R26, R34). -/
def Acq.openPair (a : Acq) (p : Pair) : Acq := a.take (PairWork.opened p)

/-- The off start of the pair in progress: the off sums are empty and the on-reference slots are counted (R27, R35). A slot that
starts at this tick is the off window's, not one of them. -/
def State.markOffStart (s : State) : State :=
  match s.acq.current with
  | none => s
  | some w =>
    let started := match s.acq.slot with
      | some t => if s.slotStartsNow then t.seq else s.acq.seq
      | none => s.acq.seq
    s.setAcq
      { s.acq with
        current := some { w with offSet := OffSet.empty, onSlots := started, offStart := s.timer.elapsed } }

/-- The off end: the pair in progress awaits its flush slot (R25). -/
def Acq.beginFlush (a : Acq) : Acq := { a with flushing := a.current, current := none }

/-- A step abandons the pair in progress: its bank is sealed ABANDONED, a pending take is cancelled, and its reduction is handed
over at once (R30, R37). -/
def State.abandonWork (s : State) : State :=
  match s.acq.current with
  | none => s
  | some w =>
    let r := w.abandonedReduction s.params (s.acq.truncatedIn w.bank)
    (s.setAcq { s.acq.sealFor w s.params true with current := none, pendingTake := false }).handOver r

/-- The converter starts with START: its first slot begins at this tick (R20). -/
def State.startConverter (s : State) : State :=
  (s.setAcq
    { s.acq with
      running := true
      slotStart := s.timer.elapsed
      seq := 0
      pipe := none
      discardFirst := true }).beginSlot

end Sys2Proof.Machine
end

