-- ==== Sys2Proof/Machine/SurveyUnit.lean ====
section
/-! DEFINITION. The survey unit (chapter 8): where line time stands relative to a survey (R140), the notice table (R139, R141),
SURVEY START and SURVEY HALT (R142, R143, R149), notices received (R145 to R151), the movement of the adopted survey with
line time (R152), its attention reason (R153), and the meanings of SURVEY_BEGIN and SURVEY_END. -/

namespace Sys2Proof.Machine

/-! ### Where line time stands (R140) -/

/-- PENDING or ACTIVE: the entry is the adopted survey (R139). -/
abbrev SurveyEntry.adopted (e : SurveyEntry) : Prop := e.state = .pending ∨ e.state = .active

/-- Line time is at or past the entry's halt line time, if it has one (R140). -/
abbrev SurveyEntry.haltReached (e : SurveyEntry) (t : Nat) : Prop := ∃ h ∈ e.halt, atOrPast t h

/-- The halt line time shortened the survey: its end is no longer S + N x C (R149, R150, R152). -/
abbrev SurveyEntry.shortened (e : SurveyEntry) : Prop :=
  e.halt.isSome ∧ ∃ p ∈ e.params, e.endTime ≠ some p.naturalEnd

/-- Line time is within the survey: in its interval, and not at or past its halt line time, whether or not that shortened the end
(R140). -/
abbrev SurveyEntry.within (e : SurveyEntry) (t : Nat) : Prop :=
  ∃ p ∈ e.params, ∃ stop ∈ e.endTime,
    atOrPast stop p.start ∧ p.into t < dayMod (stop - p.start) ∧ ¬ e.haltReached t

/-- Line time waits for the survey, likewise (R140). -/
abbrev SurveyEntry.waits (e : SurveyEntry) (t : Nat) : Prop :=
  ∃ p ∈ e.params, 1 ≤ dayMod (p.start - t) ∧ dayMod (p.start - t) ≤ 432000000 ∧ ¬ e.haltReached t

/-- How line time came to where it stands (R152): by counting, a correction or the taking of a notice, which move it by at most 20
ticks, or by a step forward or backward. -/
inductive Move | small | forward | backward
deriving DecidableEq, Repr

/-- Line time lies 0 to 20 ticks past the end, the size of the largest correction (R152, log 28). -/
abbrev SurveyEntry.endReached (e : SurveyEntry) (t : Nat) : Prop := ∃ stop ∈ e.endTime, dayMod (t - stop) ≤ 20

/-- Line time, no longer within an ACTIVE survey, has left it by its end (R152). A forward step always leaves by the end (DEDUCED, log
34). Counting or a correction does when line time stands just past the end, which decides only for N x C of exactly half a line day,
where R140 counts the end as waiting for S (DEDUCED, log 28). -/
abbrev SurveyEntry.leftByEnd (e : SurveyEntry) (m : Move) (t : Nat) : Prop :=
  e.state = .active ∧ (m = .forward ∨ m = .small ∧ e.endReached t)

/-- The state to which the adopted entry moves at line time t (R152). A correction back across S makes ACTIVE PENDING as a backward step
does; and any move back, by a step or a correction, to where R140 calls line time past makes PENDING ENDED as a forward step does, a
correction where S comes to lie more than 432,000,000 ticks ahead (DEDUCED, log 34). A halt line time that is reached makes it HALTED when
it shortened the end (R152); one that did not leaves line time past the survey too (R140), and the entry is ENDED (R150; DEDUCED, log
15). -/
def SurveyEntry.moved (e : SurveyEntry) (m : Move) (t : Nat) : EntryState :=
  if e.haltReached t then if e.shortened then .halted else .ended
  else if e.within t then .active
  else if e.leftByEnd m t then .ended
  else if e.waits t then .pending
  else .ended

/-! ### The table (R139, R141) -/

/-- The adopted survey's entry (R139). -/
def Survey.adoptedEntry (v : Survey) : Option SurveyEntry := v.table.find? fun e => decide e.adopted

/-- The entry of an identity. -/
def Survey.entryOf (v : Survey) (id : SurveyId) : Option SurveyEntry := v.table.find? fun e => decide (e.id = id)

/-- The entries of an identity changed by f. -/
def Survey.update (v : Survey) (id : SurveyId) (f : SurveyEntry → SurveyEntry) : Survey :=
  { v with table := v.table.map fun e => if e.id = id then f e else e }

/-- The first entry in table order that is not adopted is removed (R141). -/
def dropOldest : List SurveyEntry → List SurveyEntry
  | [] => []
  | e :: es => if e.adopted then e :: dropOldest es else es

/-- A new entry joins at the end, after the oldest entry that is not adopted leaves a full table (R139, R141). -/
def Survey.add (v : Survey) (e : SurveyEntry) : Survey :=
  { v with table := (if v.table.length < 4 then v.table else dropOldest v.table) ++ [e] }

/-! ### The executed plan and the adopted survey's movement (R5, R136, R152, R153) -/

/-- The executed plan that R5 gives at line time t. -/
def Survey.planAt (v : Survey) (t : Nat) : Plan :=
  match v.adoptedEntry with
  | some e => if e.within t then .survey else .steady
  | none => .steady

/-- The executed plan is the one that R5 gives at the present line time: SURVEY_BEGIN or SURVEY_END of this tick has been taken. -/
abbrev State.planCurrent (s : State) : Prop := s.timer.plan = s.survey.planAt s.timer.lineTime

/-- The executed plan takes a value; when it becomes SURVEY the regulator's condition becomes HOLD with reason SURVEY (R5, R136). -/
def State.setPlan (s : State) (p : Plan) : State :=
  let s' := s.setTimer { s.timer with plan := p }
  if s.timer.plan = .steady ∧ p = .survey then s'.holdForSurvey else s'

/-- The adopted survey, with line time brought here by m, moves to the state that line time gives it, SURVEY is latched when it becomes
ACTIVE, ENDED or HALTED, and the executed plan follows (R5, R152, R153). -/
def State.settleSurvey (s : State) (m : Move) : State :=
  match s.survey.adoptedEntry with
  | none => s.setPlan .steady
  | some e =>
    let next := e.moved m s.timer.lineTime
    let moved := s.setSurvey (s.survey.update e.id fun x => { x with state := next })
    let moved := moved.latchIf (next ≠ e.state ∧ next ≠ .pending) .survey
    moved.setPlan (if next = .active then .survey else .steady)

/-! ### Starting a survey here (R142, R143) -/

/-- A span holds the station's own chainage. -/
abbrev inSpan (ps : Params) (from_ upTo : Nat) : Prop := from_ ≤ ps.chainage ∧ ps.chainage ≤ upTo

/-- The parameters of a SURVEY START as a survey's, with S still 0; none for an unknown dither type. -/
def surveyParamsOf (a : SurveyArgs) : Option SurveyParams :=
  (ditherOfCode a.dither).map fun d =>
    { start := 0, cycle := a.cycle, offLen := a.offLen, dither := d, ditherSpan := a.ditherSpan, cycles := a.cycles }

/-- Check 4 of R142 on what is not a survey parameter: lead, hop count, span. -/
abbrev surveyArgsInRange (a : SurveyArgs) : Prop :=
  (2 ≤ a.lead ∧ a.lead ≤ 4320) ∧ (1 ≤ a.hops ∧ a.hops ≤ 15) ∧ a.spanFrom ≤ a.spanTo

/-- The entry that an accepted SURVEY START makes (R143). -/
def startedEntry (id : SurveyId) (p : SurveyParams) (a : SurveyArgs) (tally : Nat) : SurveyEntry where
  id := id
  spanFrom := a.spanFrom
  spanTo := a.spanTo
  params := some p
  halt := none
  endTime := some p.naturalEnd
  state := .pending
  relay := .start
  copiesLeft := 3
  hops := a.hops
  heard := 0
  receipt := tally

/-- An accepted SURVEY START: a new identity, S, and a PENDING entry with three copies to send (R143). -/
def State.acceptSurvey (s : State) (p : SurveyParams) (a : SurveyArgs) : State :=
  let seq := (s.survey.ownSeq + 1) % 256
  let id : SurveyId := { origin := s.params.station, seq := seq }
  let p := { p with start := (epochOf s.timer.lineTime + a.lead) * Config.epoch % Config.day }
  let table := s.survey.table.filter fun e => decide (e.id ≠ id)
  (s.setSurvey (Survey.add { table := table, ownSeq := seq } (startedEntry id p a s.timer.tally))).latch .survey

/-- SURVEY START in RUNNING: checks 2 to 5 of R142 in order, then R143. -/
def State.startSurvey (s : State) (a : SurveyArgs) : State × ReplyCode :=
  if s.align.timing = .acquire then (s, .unsync)
  else if s.survey.adoptedEntry.isSome then (s, .busy)
  else
    match surveyParamsOf a with
    | none => (s, .value)
    | some p =>
      if p.InRange ∧ surveyArgsInRange a ∧ inSpan s.params a.spanFrom a.spanTo then (s.acceptSurvey p a, .ok) else (s, .value)

/-- A halt line time shortens the survey: it lies before the end, or it lies before S of a PENDING survey, whose end may be half a
line day or more after it (R149; DEDUCED, log 15). -/
abbrev SurveyEntry.shortensTo (e : SurveyEntry) (h : Nat) : Prop :=
  (∃ stop ∈ e.endTime, before h stop) ∨ (e.state = .pending ∧ ∃ p ∈ e.params, before h p.start)

/-- An entry takes a halt line time, and its end becomes it when it shortens the survey (R149, R150). -/
def SurveyEntry.takeHalt (e : SurveyEntry) (h : Nat) : SurveyEntry :=
  { e with halt := some h, endTime := if e.shortensTo h then some h else e.endTime }

/-- SURVEY HALT in RUNNING (R149). Hops to relay stays as the entry has it: the hop count of SURVEY START, or, for an own survey
adopted again after a RESTART, what its relay left, which is the free value of log 16 when the notice came with 0 hops. -/
def State.haltSurvey (s : State) : State × ReplyCode :=
  match s.survey.adoptedEntry with
  | none => (s, .state)
  | some e =>
    if e.id.origin ≠ s.params.station then (s, .origin)
    else if e.halt.isSome then (s, .state)
    else
      let h := (epochOf s.timer.lineTime + 2) * Config.epoch % Config.day
      (s.setSurvey (s.survey.update e.id fun x => { x.takeHalt h with relay := .halt, copiesLeft := 3 }), .ok)

/-! ### Notices received (R145 to R151) -/

/-- The copies heard of an identity rise (R145, R151). -/
def SurveyEntry.hear (e : SurveyEntry) : SurveyEntry := { e with heard := satSucc 255 e.heard }

/-- An entry with its relaying set: three copies and one hop less (R148, R151). -/
def SurveyEntry.relayed (e : SurveyEntry) (action : NoticeAction) (hops : Nat) : SurveyEntry :=
  { e with relay := action, copiesLeft := 3, hops := hops - 1 }

/-- A new entry made from a notice that is not relayed: no copies; its relay action and hops to relay, which no rule states, are
free values (log 16). -/
def SurveyEntry.unrelayed (e : SurveyEntry) (s : State) : SurveyEntry :=
  { e with
    relay := if Config.unrelayedIsStart s.draws then .start else .halt
    copiesLeft := 0
    hops := (Config.unrelayedHops s.draws).val }

/-- The entry that a START notice makes, before its relaying is set (R146). -/
def startEntry (n : Notice) (p : SurveyParams) (state : EntryState) (tally : Nat) : SurveyEntry where
  id := n.id
  spanFrom := n.spanFrom
  spanTo := n.spanTo
  params := some p
  halt := none
  endTime := some p.naturalEnd
  state := state
  relay := .start
  copiesLeft := 0
  hops := 0
  heard := 1
  receipt := tally

/-- The notice wins against the adopted survey X (R147): earlier S, then lower origin, then later sequence. -/
def noticeWins (id : SurveyId) (p : SurveyParams) (x : SurveyEntry) (xp : SurveyParams) : Bool :=
  if before p.start xp.start then true
  else if before xp.start p.start then false
  else if id.origin ≠ x.id.origin then decide (id.origin < x.id.origin)
  else decide (1 ≤ (id.seq + 256 - x.id.seq) % 256 ∧ (id.seq + 256 - x.id.seq) % 256 ≤ 127)

/-- The notice is adopted: no survey is, or it wins (R147). -/
def State.adoptsNotice (s : State) (id : SurveyId) (p : SurveyParams) : Bool :=
  match s.survey.adoptedEntry with
  | none => true
  | some x =>
    match x.params with
    | some xp => noticeWins id p x xp
    | none => true

/-- The relaying of a new START entry (R148). -/
def SurveyEntry.relayStart (e : SurveyEntry) (n : Notice) (s : State) : SurveyEntry × State :=
  if 0 < n.hops then (e.relayed .start n.hops, s) else (e.unrelayed s, s.drawn)

/-- The adopted survey of another identity becomes SUPERSEDED (R147). -/
def Survey.supersedeOthers (v : Survey) (id : SurveyId) : Survey :=
  { v with table := v.table.map fun x => if x.adopted ∧ x.id ≠ id then { x with state := .superseded } else x }

/-- A START notice of a new identity that concerns this station and is not past is judged and relayed (R147, R148). -/
def State.judgeStart (s : State) (n : Notice) (p : SurveyParams) : State :=
  if s.adoptsNotice n.id p then
    let fresh := startEntry n p .pending s.timer.tally
    let (e, s) := fresh.relayStart n s
    ((s.setSurvey ((s.survey.add e).supersedeOthers n.id)).latch .survey).settleSurvey .small
  else
    let (e, s) := (startEntry n p .superseded s.timer.tally).relayStart n s
    s.setSurvey (s.survey.add e)

/-- A START notice (R145, R146). -/
def State.takeStart (s : State) (n : Notice) (p : SurveyParams) : State :=
  if (s.survey.entryOf n.id).isSome then s.setSurvey (s.survey.update n.id SurveyEntry.hear)
  else
    let fresh := startEntry n p .ignored s.timer.tally
    if ¬ inSpan s.params n.spanFrom n.spanTo ∨ ¬ (fresh.within s.timer.lineTime ∨ fresh.waits s.timer.lineTime) then
      s.drawn.setSurvey (s.survey.add (fresh.unrelayed s))
    else s.judgeStart n p

/-- A HALT notice is relayed: hops remaining above 0 and the own chainage within the notice's span (R151). -/
abbrev haltRelayed (ps : Params) (n : Notice) : Prop := 0 < n.hops ∧ inSpan ps n.spanFrom n.spanTo

/-- The relaying that the first HALT of an identity sets on an entry that exists (R151). -/
def SurveyEntry.relayHalt (e : SurveyEntry) (ps : Params) (n : Notice) : SurveyEntry :=
  if haltRelayed ps n then e.relayed .halt n.hops else { e with copiesLeft := 0 }

/-- The state of an entry that is not adopted after its first HALT (R151). -/
def EntryState.afterHalt : EntryState → EntryState
  | .superseded | .ignored => .halted
  | .ended => .ended
  | .halted => .halted
  | .pending => .pending
  | .active => .active

/-- The entry that a HALT notice of an unknown identity makes (R151). -/
def haltEntry (n : Notice) (h tally : Nat) : SurveyEntry where
  id := n.id
  spanFrom := n.spanFrom
  spanTo := n.spanTo
  params := none
  halt := some h
  endTime := none
  state := .halted
  relay := .halt
  copiesLeft := 0
  hops := 0
  heard := 1
  receipt := tally

/-- A HALT notice (R150, R151). One whose halt line time line time has reached ends the adopted survey at once, as HALTED when it
shortened the end and else as ENDED (log 15). -/
def State.takeHaltNotice (s : State) (n : Notice) (h : Nat) : State :=
  match s.survey.entryOf n.id with
  | none =>
    let fresh := haltEntry n h s.timer.tally
    if haltRelayed s.params n then s.setSurvey (s.survey.add (fresh.relayed .halt n.hops))
    else s.drawn.setSurvey (s.survey.add (fresh.unrelayed s))
  | some old =>
    if old.halt.isSome then s.setSurvey (s.survey.update n.id SurveyEntry.hear)
    else
      let taken (e : SurveyEntry) : SurveyEntry :=
        if e.adopted then e.hear.takeHalt h else { e.hear with halt := some h, state := e.state.afterHalt }
      let s := s.setSurvey (s.survey.update n.id fun e => (taken e).relayHalt s.params n)
      if old.adopted ∧ (taken old).haltReached s.timer.lineTime then s.settleSurvey .small else s

/-- A SURVEY NOTICE handed off by the link controller (R79). -/
def State.takeNotice (s : State) (n : Notice) : State :=
  match n.body with
  | .start p => s.takeStart n p
  | .halt h => s.takeHaltNotice n h

/-! ### Copies to send (R144) -/

/-- The finished notice that an entry's copy is (R144). -/
def SurveyEntry.copy (e : SurveyEntry) : Notice where
  id := e.id
  hops := e.hops
  spanFrom := e.spanFrom
  spanTo := e.spanTo
  body :=
    match e.relay, e.params with
    | .start, some p => .start p
    | _, _ => .halt (e.halt.getD 0)

/-! ### Events -/

/-- Line time has reached S of the adopted survey (R152). -/
abbrev State.surveyBeginDue (s : State) : Prop :=
  ∃ e ∈ s.survey.adoptedEntry, e.state = .pending ∧ e.moved .small s.timer.lineTime = .active

/-- SURVEY_BEGIN (R152). -/
def execSurveyBegin (s : State) : Result State := event s.surveyBeginDue s (s.settleSurvey .small)

/-- Line time has reached the end or the halt line time of the adopted survey (R152). -/
abbrev State.surveyEndDue (s : State) : Prop :=
  ∃ e ∈ s.survey.adoptedEntry, e.moved .small s.timer.lineTime = .ended ∨ e.moved .small s.timer.lineTime = .halted

/-- SURVEY_END (R152). -/
def execSurveyEnd (s : State) : Result State := event s.surveyEndDue s (s.settleSurvey .small)

end Sys2Proof.Machine
end

