-- ==== Sys2Proof/Machine/LineTimer.lean ====
section
/-! DEFINITION. The line timer (chapter 1): the pair of the executed plan at a line time (R6, R9, R11, R12), corrections (R14 to
R16) and steps (R17, R18), the status transmission point's draw (R4), and the meanings of ON_REFERENCE_START, OFF_START, OFF_END,
MARK_PULSE_END and LINE_TICK. -/

namespace Sys2Proof.Machine

/-! ### Pairs -/

/-- The pair of the executed plan whose epoch or cycle holds the present line time (R9, R12); none in an epoch that is no notch
epoch and outside an adopted survey. -/
def State.pairHere (s : State) : Option Pair :=
  match s.timer.plan with
  | .steady =>
    let plan := s.params.notchPlan
    let n := epochOf s.timer.lineTime
    if plan.isNotch n then some (plan.pair n s.timer.opened) else none
  | .survey =>
    match s.survey.adoptedEntry with
    | none => none
    | some e =>
      match e.params with
      | none => none
      | some p => some (p.pair e.id s.params.onRefLen (p.cycleAt s.timer.lineTime) s.timer.opened)

/-- A pair opens: it is in progress, the window state is ON_REFERENCE, the acquisition unit takes its start and, for a check
pair, the regulator notes the drive state (R6, R7, R26, R34, R119). -/
def State.openPair (s : State) (p : Pair) : State :=
  let s := s.setTimer { s.timer with pair := some p, window := .onReference, opened := s.timer.opened + 1 }
  let s := s.setAcq (s.acq.openPair p)
  let s := s.windowChanged
  if p.kind = .check then s.noteDrive else s

/-! ### The transmission point -/

/-- A transmission point is drawn and armed in the epoch whose first tick is `first` (R4). -/
def State.drawTxPointFrom (s : State) (first : Nat) : State :=
  (s.setTimer { s.timer with txPoint := some ((first + s.drawnStatusDelay) % Config.day) }).drawn

/-- A transmission point is drawn and armed for the epoch that holds the present line time (R4). -/
def State.drawTxPoint (s : State) : State := s.drawTxPointFrom (epochOf s.timer.lineTime * Config.epoch)

/-! ### Corrections and steps -/

/-- Line time moves by a correction or step: the stored offsets are reduced by it and the receive stamp of a frame in assembly
moves with it, in the same event (R14, R17, R76, R93). The elapsed-tick count is unchanged. -/
def State.shiftTime (s : State) (c : Int) : State :=
  let s := s.setTimer { s.timer with lineTime := dayMod (s.timer.lineTime + c), counted := false }
  let s := s.reduceOffsets c
  s.setLink { s.link with assembly := s.link.assembly.map fun f => { f with stamp := dayMod (f.stamp + c) } }

/-- The next epoch end, 100,000 on from the multiple of an epoch end that has fired and whose row is still to come (R3). -/
def Timer.epochEndAhead (t : Timer) : Option Nat :=
  match t.epochWork with
  | .whole m => if t.nextEpochEnd = some m then some ((m + Config.epoch) % Config.day) else t.nextEpochEnd
  | .nothing | .rest => t.nextEpochEnd

/-- The next epoch end after a correction: kept while line time is still before it, else the first multiple of 100,000 after
line time (R14). -/
def State.keepEpochEnd (s : State) : State :=
  s.setTimer
    { s.timer with
      nextEpochEnd := s.timer.epochEndAhead.map fun e =>
        if before s.timer.lineTime e then e else multipleAfter s.timer.lineTime }

/-- Line time t lies at or past the on-reference start of p and before its off start (R15). -/
abbrev Pair.onReferenceAt (p : Pair) (t : Nat) : Prop := atOrPast t p.onRefStart ∧ before t p.offStart

/-- The on-reference start of p has passed: line time stands at or past it, but not at the start itself by counting, in the tick in which
p may still open (R6). -/
abbrev Timer.startPassed (t : Timer) (p : Pair) : Prop :=
  atOrPast t.lineTime p.onRefStart ∧ ¬ (t.lineTime = p.onRefStart ∧ t.counted)

/-- A correction from `old` opens p at once (R15), unless the on-reference start of p had passed before it: while another pair was in
progress (R6, R12, R160), in ACQUIRE (R12, R160), under another plan or before an adoption (R6, R12), or at a step (R17, R160). Such a
pair is skipped (DEDUCED, log 8). -/
abbrev State.opensAtCorrection (s : State) (old : Timer) (p : Pair) : Prop :=
  s.align.timing.opensPairs ∧ p.onReferenceAt s.timer.lineTime ∧ ¬ old.startPassed p

/-- The pair that a correction from `old` opens at once (R15). -/
def State.openAtCorrection (s : State) (old : Timer) : State :=
  match s.pairHere with
  | some p => if s.opensAtCorrection old p then s.openPair p else s
  | none => s

/-- A correction applied while no pair is in progress (R14, R15). -/
def State.applyCorrection (s : State) (c : Int) : State :=
  ((s.shiftTime c).keepEpochEnd.settleSurvey .small).openAtCorrection s.timer

/-- A step with a pair in progress abandons it: the window state becomes NONE without events, SWITCH is set afresh, and the
pair's reduction is handed over (R18, R30, R41). A slot that has started at this very tick is tagged anew as slot 0 of window state
NONE, as at a window event (DEDUCED, log 11). -/
def State.abandonPair (s : State) : State :=
  if s.timer.pair.isSome then
    let s := s.setTimer { s.timer with pair := none, window := .noWindow }
    s.refreshSwitch.abandonWork.windowChanged
  else s

/-- The next epoch end and the epoch end waiting for its row after a step (R17): the next epoch end is set anew, and of an epoch
end that fired in this tick the rest of the work remains (R92, R101; DESIGN CHOICE, log 32). -/
def Timer.stepEpochEnd (t : Timer) : Timer :=
  { t with
    nextEpochEnd := some (multipleAfter t.lineTime)
    epochWork := if t.epochWork = .nothing then .nothing else .rest }

/-- A step (R17). The abandoned pair's reduction comes before the executed plan is evaluated afresh (DESIGN CHOICE, log 9). -/
def State.applyStep (s : State) (d : Int) : State :=
  let s := s.shiftTime d
  let s := s.setTimer s.timer.stepEpochEnd
  s.drawTxPoint.abandonPair.settleSurvey (if 0 < d then .forward else .backward)

/-- A step of 0 ticks is not handed (R108). -/
def State.handStep (s : State) (d : Int) : State := if d = 0 then s else s.applyStep d

/-- A correction handed to the line timer, and the pending correction that its answer leaves (R14, R16, R105). A correction of 0
is not handed (R104). R16 defers the correction of an epoch end under STEADY too when a survey pair is still open then, although
R102 calls it always applied (DEDUCED, log 33). -/
def State.handCorrection (s : State) (c : Int) : State :=
  if c = 0 then s
  else if s.timer.pair.isSome then s.setAlign { s.align with pendingCorr := c }
  else (s.setAlign { s.align with pendingCorr := 0 }).applyCorrection c

/-! ### Window events -/

/-- Counting has brought line time to the on-reference start of a pair of the executed plan, and it may open (R6). The executed
plan is the one in force at this tick (R5, R12, log 14). -/
abbrev State.onRefDue (s : State) : Prop :=
  s.running ∧ s.timer.pair = none ∧ s.align.timing.opensPairs ∧ s.timer.counted ∧ s.planCurrent ∧
    ∃ p ∈ s.pairHere, p.onRefStart = s.timer.lineTime

/-- The pair here opens. -/
def State.openHere (s : State) : State :=
  match s.pairHere with
  | some p => s.openPair p
  | none => s

/-- ON_REFERENCE_START (R6, R7). -/
def execOnReferenceStart (s : State) : Result State := event s.onRefDue s s.openHere

/-- The off start of the pair in progress is reached (R7). -/
abbrev State.offStartDue (s : State) : Prop :=
  s.timer.window = .onReference ∧ ∃ p ∈ s.timer.pair, atOrPast s.timer.lineTime p.offStart

/-- MARK goes low for 500 elapsed ticks at a survey off start (R13). -/
def Timer.markOffStart (t : Timer) : Timer :=
  match t.pair with
  | some p => if p.kind = .survey then { t with markLow := true, markStart := t.elapsed } else t
  | none => t

/-- The off start: the window state becomes OFF, MARK pulses at a survey pair and SWITCH opens (R7, R13, R27, R41). -/
def State.beginOff (s : State) : State :=
  let s := s.setTimer { s.timer.markOffStart with window := .off }
  s.refreshSwitch.markOffStart.windowChanged

/-- OFF_START (R7). -/
def execOffStart (s : State) : Result State := event s.offStartDue s s.beginOff

/-- The off end of the pair in progress is reached (R7). -/
abbrev State.offEndDue (s : State) : Prop :=
  s.timer.window = .off ∧ ∃ p ∈ s.timer.pair, atOrPast s.timer.lineTime p.offEnd

/-- The off end: the pair is no longer in progress, the window state becomes NONE and SWITCH closes in RAMPING or ON (R7, R41). -/
def State.endOff (s : State) : State :=
  let s := s.setTimer { s.timer with pair := none, window := .noWindow }
  let s := s.refreshSwitch
  (s.setAcq s.acq.beginFlush).windowChanged

/-- OFF_END (R7). -/
def execOffEnd (s : State) : Result State := event s.offEndDue s s.endOff

/-- The MARK pulse has run its 500 elapsed ticks (R13). -/
abbrev State.markEndDue (s : State) : Prop :=
  s.timer.markLow ∧ Config.markTicks ≤ ticksSince s.timer.elapsed s.timer.markStart

/-- MARK_PULSE_END (R13). -/
def execMarkPulseEnd (s : State) : Result State :=
  event s.markEndDue s (s.setTimer { s.timer with markLow := false })

/-! ### The line tick (R1) -/

/-- Counting has brought line time to the next epoch end, which fires (R3). -/
def Timer.fireEpochEnd (t : Timer) : Timer :=
  if t.nextEpochEnd = some t.lineTime then { t with epochWork := .whole t.lineTime } else t

/-- Line time and the elapsed-tick count advance; line time only in RUNNING (R1, R2, R3). -/
def Timer.tick (t : Timer) (running : Bool) : Timer :=
  let t := { t with elapsed := ticksAfter t.elapsed 1 }
  if running then { t with lineTime := (t.lineTime + 1) % Config.day, counted := true }.fireEpochEnd else t

/-- The channel idle count follows CD; it is held at 0 while KEY is asserted (R68). -/
def Link.idleTick (l : Link) (cd : Bool) : Link :=
  { l with idleCount := if l.key ∨ cd then 0 else satSucc Config.idleGap l.idleCount }

/-- The TPI low and high runs follow TPI (R110). -/
def Align.tpiTick (a : Align) (tpi : Bool) : Align :=
  { a with
    lowRun := if tpi then 0 else satSucc Config.tpiLowTicks a.lowRun
    highRun := if tpi then (if a.armed then satSucc 2 a.highRun else a.highRun) else 0 }

/-- LINE_TICK (R1 to R3, R45, R63, R68, R110). In SETUP only the elapsed-tick count advances. The receiver takes the bit of the tick
here, in the state it has before the tick's other events: the bit of the tick in which KEY is released is not taken, and that of the tick
in which KEY is asserted is, of both of which R71 says nothing (DESIGN CHOICE, log 17). -/
def execLineTick (radio : RadioLines) (tpi : Bool) (s : State) : Result State :=
  let s := (s.setLines { cd := radio.cd, tpi := tpi }).setTimer (s.timer.tick (decide s.running))
  if s.running then
    .next (((s.setLink ((s.link.idleTick radio.cd).rxTick radio.data)).setAlign (s.align.tpiTick tpi)).setDrive s.drive.rampCount)
  else .next s

end Sys2Proof.Machine
end

