-- ==== Sys2Proof/Machine/AlignmentUnit.lean ====
section
/-! DEFINITION. The alignment unit (chapter 6): adoption, the work of an epoch end, averaging corrections, root merge, lost lock,
and time pulses; the meanings of EPOCH_END, TPI_ARM, TPI_PULSE and ANCHOR_LOSS. -/

namespace Sys2Proof.Machine

/-! ### Adoption (R100) -/

/-- An entry taken that may be adopted (R100). -/
abbrev Peer.adoptable (p : Peer) : Prop := p.planMatch ∧ p.timing.opensPairs

/-- The state becomes TRACKING under a root, with both streaks and the pending correction 0 (R98, R100, R107). -/
def Align.follow (a : Align) (root : Nat) : Align :=
  { a with
    timing := .tracking
    root := root
    acquireCount := 0
    lowerStreak := 0
    lostStreak := 0
    pendingCorr := 0 }

/-- An entry taken, as the peer table hands it over (R89, R100). The step comes before the change of root and state (log 9). -/
def State.entryTaken (s : State) (p : Peer) : State :=
  if s.align.timing = .acquire ∧ p.adoptable then
    let s := s.handStep p.offset
    s.setAlign (s.align.follow p.root)
  else s

/-! ### The averaging correction (R103, R104) -/

/-- An offset lies within the outlier limit of 200 ticks (R103, R109). -/
abbrev Peer.near (p : Peer) : Prop := -200 ≤ p.offset ∧ p.offset ≤ 200

/-- The included set (R103). -/
def State.included (s : State) : List Peer :=
  let near := s.syncPeers.filter fun p => decide p.near
  let anchored := near.filter fun p => decide (p.timing = .anchored)
  if anchored.isEmpty then near else anchored

/-- Half of the mean of the included offsets, each division truncated toward zero; 0 when the set is empty (R104). -/
def halfMean (included : List Peer) : Int :=
  ((included.map Peer.offset).sum.tdiv included.length).tdiv 2

/-- The correction of an epoch end (R104); the executed plan is what R5 gives at that epoch end (log 14). -/
def State.averagingCorrection (s : State) : Int :=
  let bound := if s.survey.planAt s.timer.lineTime = .survey then 10 else 20
  clamp (-bound) bound (halfMean s.included + s.align.pendingCorr)

/-! ### Merge and lost lock (R106 to R109) -/

/-- The merge candidates (R106). -/
def State.candidates (s : State) : List Peer :=
  s.peers.filter fun p => decide (p.candidate s.timer.tally s.align.root)

/-- p is chosen before q: lowest root, then smallest distance, then lowest station number (R107). -/
abbrev Peer.chosenBefore (ps : Params) (p q : Peer) : Prop :=
  p.root < q.root ∨ (p.root = q.root ∧ (distance ps p.chainage < distance ps q.chainage ∨
    (distance ps p.chainage = distance ps q.chainage ∧ p.station < q.station)))

/-- The peer a merge chooses (R107). -/
def chosen (ps : Params) : List Peer → Option Peer
  | [] => none
  | p :: t =>
    match chosen ps t with
    | none => some p
    | some q => if q.chosenBefore ps p then some q else some p

/-- The lower-root streak brought up to date (R106). -/
def State.nextLowerStreak (s : State) : Nat := if s.candidates.isEmpty then 0 else s.align.lowerStreak + 1

/-- The lost-lock streak brought up to date (R109). -/
def State.nextLostStreak (s : State) : Nat :=
  if ¬ s.syncPeers.isEmpty ∧ ∀ p ∈ s.syncPeers, ¬ p.near then s.align.lostStreak + 1 else 0

/-- A root merge (R107). -/
def State.merge (s : State) : State :=
  match chosen s.params s.candidates with
  | none => s
  | some p =>
    let s := s.handStep p.offset
    s.setAlign (s.align.follow p.root)

/-- Lost lock: the state becomes ACQUIRE with the root kept, and TIMING_LOST is latched (R99, R109). -/
def State.loseLock (s : State) : State :=
  (s.setAlign
    { s.align with timing := .acquire, acquireCount := 0, lowerStreak := 0, lostStreak := 0, pendingCorr := 0 }).latch
    .timingLost

/-- An epoch end in FREE or TRACKING (R102). -/
def State.trackingEpoch (s : State) : State :=
  let lower := s.nextLowerStreak
  let lost := s.nextLostStreak
  let s := s.setAlign { s.align with lowerStreak := lower, lostStreak := lost }
  if 3 ≤ lower then s.merge
  else if 6 ≤ lost then s.loseLock
  else s.handCorrection s.averagingCorrection

/-- An epoch end in ACQUIRE: the third makes the station FREE with its own root (R101). -/
def State.acquireEpoch (s : State) : State :=
  if 3 ≤ s.align.acquireCount + 1 then
    s.setAlign
      { s.align with timing := .free, root := s.params.station, acquireCount := 0, lowerStreak := 0, lostStreak := 0 }
  else s.setAlign { s.align with acquireCount := s.align.acquireCount + 1 }

/-- The alignment unit's work at an epoch end (R102, R114). -/
def State.alignEpoch (s : State) : State :=
  match s.align.timing with
  | .stopped | .anchored => s
  | .acquire => s.acquireEpoch
  | .free | .tracking => s.trackingEpoch

/-! ### EPOCH_END (R3) -/

/-- An epoch end has fired and waits for its work (R3). -/
abbrev State.epochEndDue (s : State) : Prop := s.running ∧ s.timer.epochWork ≠ .nothing

/-- The line timer's part of an epoch end: the tally rises, the next epoch end moves on, and a transmission point is drawn in the
epoch that begins (R3, R4). After a step in the same tick the next epoch end and the transmission point that the step set stand
(DESIGN CHOICE, log 32). -/
def State.countEpoch (s : State) : State :=
  let counted := s.setTimer
    { s.timer with
      tally := (s.timer.tally + 1) % 65536
      nextEpochEnd := s.timer.epochEndAhead
      epochWork := .nothing }
  match s.timer.epochWork with
  | .whole m => counted.drawTxPointFrom m
  | .nothing | .rest => counted

/-- EPOCH_END (R3, R4, R91, R102). -/
def execEpochEnd (s : State) : Result State := event s.epochEndDue s s.countEpoch.removeAged.alignEpoch

/-! ### Time pulses (R110 to R115) -/

/-- The TPI low run has reached 1,000 (R110). -/
abbrev State.tpiArmDue (s : State) : Prop :=
  s.running ∧ s.align.armed = false ∧ Config.tpiLowTicks ≤ s.align.lowRun

/-- TPI_ARM (R110). -/
def execTpiArm (s : State) : Result State := event s.tpiArmDue s (s.setAlign { s.align with armed := true })

/-- The pulse at elapsed tick `now` is well spaced (R111). -/
abbrev Align.wellSpaced (a : Align) (now : Nat) : Prop :=
  ∃ p ∈ a.lastPulse, 9995 ≤ ticksSince now p ∧ ticksSince now p ≤ 10005

/-- A pulse is recognized: the recognizer is disarmed, and the pulse streak and last pulse are brought up to date (R110, R111). -/
def Align.takePulse (a : Align) (now : Nat) : Align :=
  { a with
    armed := false
    highRun := 0
    pulseStreak := if a.wellSpaced now then satSucc 3 a.pulseStreak else 1
    lastPulse := some now }

/-- The phase of line time within its second (R112). -/
def phase (t : Nat) : Int := if t % 10000 < 5000 then (t % 10000 : Nat) else ((t % 10000 : Nat) : Int) - 10000

/-- Anchor entry (R112): the pending correction is discarded, a step or correction is handed by the phase, and the state becomes
ANCHORED with root 0. -/
def State.enterAnchor (s : State) : State :=
  let d := phase s.timer.lineTime
  let s := s.setAlign { s.align with pendingCorr := 0 }
  let s := if 500 < d.natAbs then s.handStep (-d) else s.handCorrection (clamp (-20) 20 (-d))
  s.setAlign { s.align with timing := .anchored, root := 0, lowerStreak := 0, lostStreak := 0 }

/-- A recognized pulse in ANCHORED (R113). -/
def State.anchoredPulse (s : State) (wellSpaced : Bool) : State :=
  if wellSpaced then s.handCorrection (clamp (-20) 20 (-phase s.timer.lineTime + s.align.pendingCorr)) else s

/-- A recognized pulse (R111 to R113). -/
def State.pulse (s : State) : State :=
  let wellSpaced := decide (s.align.wellSpaced s.timer.elapsed)
  let s := s.setAlign (s.align.takePulse s.timer.elapsed)
  match s.align.timing with
  | .stopped | .acquire => s
  | .free | .tracking => if s.align.pulseStreak = 3 ∧ s.params.anchorPermitted then s.enterAnchor else s
  | .anchored => s.anchoredPulse wellSpaced

/-- The high run has reached 2 while armed (R110). -/
abbrev State.tpiPulseDue (s : State) : Prop := s.running ∧ s.align.armed ∧ 2 ≤ s.align.highRun

/-- TPI_PULSE (R111). -/
def execTpiPulse (s : State) : Result State := event s.tpiPulseDue s s.pulse

/-- No pulse has been recognized for 30,000 elapsed ticks in ANCHORED (R115). -/
abbrev State.anchorLossDue (s : State) : Prop :=
  s.align.timing = .anchored ∧
    ∃ p ∈ s.align.lastPulse, Config.anchorLossTicks ≤ ticksSince s.timer.elapsed p

/-- ANCHOR_LOSS (R115): TRACKING with root 0; the pending correction is kept. -/
def execAnchorLoss (s : State) : Result State :=
  event s.anchorLossDue s
    (s.setAlign { s.align with timing := .tracking, root := 0, lowerStreak := 0, lostStreak := 0 })

end Sys2Proof.Machine
end

