-- ==== Sys2Proof/Machine/LinkController.lean ====
section
/-! DEFINITION. The link controller (chapter 4): transmit queue, channel access, sending, the STATUS frame's fields, receiving and
hand-off; the meanings of TRANSMISSION_POINT, IDLE_GAP, BACKOFF_END, PREAMBLE, STAMP, KEY_RELEASE, SYNC_PATTERN_MATCH,
FRAME_ABANDONED and FRAME_COMPLETE. The bits come through LINE_TICK (Receiver.lean). -/

namespace Sys2Proof.Machine

/-! ### The transmit queue (R65 to R67) -/

/-- A frame becomes the head, if there is one: W is 16 and the attempt count 0 (R65). -/
def Link.headArrives (l : Link) : Link :=
  if l.queue.isEmpty then l else { l with window := 16, attempts := 0 }

/-- The transmitter turns to the head: DEFER, or IDLE when the queue is empty (section 4.3, R70, R71). -/
def Link.nextHead (l : Link) : Link :=
  { l.headArrives with tx := if l.queue.isEmpty then .idle else .defer }

/-- A frame joins at the tail; it becomes the head of an empty queue, and enters DEFER when the transmitter is free (R65, R69). -/
def Link.join (l : Link) (e : TxEntry) : Link :=
  let joined := { l with queue := l.queue ++ [e] }
  if l.queue.isEmpty then
    let headed := joined.headArrives
    if l.frame.isNone then { headed with tx := .defer } else headed
  else joined

/-- A STATUS request (R66). -/
def State.requestStatus (s : State) : State :=
  if TxEntry.status ∈ s.link.queue then s
  else if s.link.queue.length < 6 then s.setLink (s.link.join .status)
  else s.countTxDrop

/-- A notice copy offered to the queue (R67). -/
def State.offerCopy (s : State) (n : Notice) : State :=
  if s.link.queue.length < 6 then s.setLink (s.link.join (.notice n)) else s.countTxDrop

/-- The copies due at a transmission point, one per entry with copies left, offered in table order (R144). -/
def State.offerCopies (s : State) : List SurveyEntry → State
  | [] => s
  | e :: es => (if 0 < e.copiesLeft then s.offerCopy e.copy else s).offerCopies es

/-- One copy fewer of each entry with copies left (R144). -/
def Survey.countCopies (v : Survey) : Survey :=
  { v with table := v.table.map fun e => { e with copiesLeft := e.copiesLeft - 1 } }

/-- The armed transmission point has been reached (R4). -/
abbrev State.txPointDue (s : State) : Prop := s.running ∧ ∃ p ∈ s.timer.txPoint, atOrPast s.timer.lineTime p

/-- TRANSMISSION_POINT (R4, R66, R144): the point is disarmed, the STATUS request comes first, then the copies. -/
def execTransmissionPoint (s : State) : Result State :=
  event s.txPointDue s
    (let s := (s.setTimer { s.timer with txPoint := none }).requestStatus
     (s.offerCopies s.survey.table).setSurvey s.survey.countCopies)

/-! ### Channel access (R68 to R70) -/

/-- The channel is idle for access and a head waits in DEFER (R69). -/
abbrev State.idleGapDue (s : State) : Prop := s.link.tx = .defer ∧ Config.idleGap ≤ s.link.idleCount

/-- IDLE_GAP (R69): a backoff is drawn, and the head enters BACKOFF. -/
def execIdleGap (s : State) : Result State :=
  event s.idleGapDue s
    ((s.setLink
      { s.link with
        tx := .backoff
        backoffEnd := ticksAfter s.timer.elapsed (s.drawnBackoff * 100) }).drawn)

/-- The backoff ends (R69). -/
abbrev State.backoffDue (s : State) : Prop :=
  s.link.tx = .backoff ∧ elapsedReached s.timer.elapsed s.link.backoffEnd

/-- A finished notice copy's body; a STATUS frame is built only at its stamp (section 4.2, R72). -/
def TxEntry.body : TxEntry → Option (List Byte)
  | .status => none
  | .notice n => some n.enc

/-- KEY is asserted for the head frame (R65, R68, R71). The receiver, OFF from here on, forgets the bits taken, those of HUNT too, so that
none of them counts among the last 16 after KEY release (DESIGN CHOICE, log 17). -/
def Link.assertKey (l : Link) (now : Nat) : Link :=
  match l.queue with
  | [] => l
  | e :: rest =>
    ({ l with
      queue := rest
      tx := .keyed
      frame := some { entry := e, body := e.body }
      key := true
      keyStart := now
      idleCount := 0
      rx := .off
      bits := []
      assembly := none }).headArrives

/-- A busy finding drops the head at its eighth, and below that doubles W up to 64 and returns the head to DEFER (R70). -/
def State.busyFinding (s : State) : State :=
  if 8 ≤ s.link.attempts + 1 then
    (s.setLink ({ s.link with queue := s.link.queue.tail, attempts := s.link.attempts + 1 }).nextHead).countTxDrop
  else
    s.setLink
      { s.link with attempts := s.link.attempts + 1, window := min 64 (2 * s.link.window), tx := .defer }

/-- BACKOFF_END (R69 to R71): CD is examined once. -/
def execBackoffEnd (s : State) : Result State :=
  event s.backoffDue s (if s.lines.cd then s.busyFinding else s.setLink (s.link.assertKey s.timer.elapsed))

/-! ### Sending (R71 to R73) -/

/-- The key lead is over (R71). -/
abbrev State.preambleDue (s : State) : Prop :=
  s.link.tx = .keyed ∧ Config.keyLead ≤ ticksSince s.timer.elapsed s.link.keyStart

/-- PREAMBLE (R71). -/
def execPreamble (s : State) : Result State :=
  event s.preambleDue s (s.setLink { s.link with tx := .sending })

/-- The output current of a STATUS frame (R73). -/
def State.reportedCurrent (s : State) : Nat :=
  if s.drive.state = .ramping ∨ s.drive.state = .on then s.acq.latestCurrent else 0

/-- The fields of a STATUS frame as they stand (R73). -/
def State.statusFields (s : State) : Status where
  station := s.params.station
  chainage := s.params.chainage
  planTag := s.port.planTag
  stamp := s.timer.lineTime
  timing := s.align.timing
  root := s.align.root
  plan := s.timer.plan
  drive := s.drive.state
  current := s.reportedCurrent
  condition := s.reg.condition
  holdReason := if s.reg.condition = .hold then s.reg.holdReason else none
  depth := s.reg.lastDepth
  amount := if s.reg.condition = .short ∨ s.reg.condition = .excess then s.reg.amount else none
  survey := if s.timer.plan = .survey then s.survey.adoptedEntry.map (·.id) else none

/-- The first sync bit of a STATUS frame that is not built yet leaves (R72). The executed plan it reports is the one R5 gives at
this tick (R73, log 14). -/
abbrev State.stampDue (s : State) : Prop :=
  s.link.tx = .sending ∧ s.link.frame = some { entry := .status, body := none } ∧ s.planCurrent ∧
    Config.stampLag ≤ ticksSince s.timer.elapsed s.link.keyStart

/-- STAMP (R72, R73): the stamp and all fields are taken, and the body is built from them. -/
def execStamp (s : State) : Result State :=
  event s.stampDue s
    (s.setLink { s.link with frame := some { entry := .status, body := some s.statusFields.enc } })

/-- The CRC's last bit ends (R71). -/
abbrev State.keyReleaseDue (s : State) : Prop :=
  s.link.tx = .sending ∧ ∃ f ∈ s.link.frame, ∃ body ∈ f.body,
    keyedTicks body.length ≤ ticksSince s.timer.elapsed s.link.keyStart

/-- KEY is released: the frame is done, the receiver hunts, the idle count restarts, and the next head enters DEFER (R71). -/
def Link.releaseKey (l : Link) : Link :=
  ({ l with key := false, frame := none, rx := .hunt, bits := [], idleCount := 0 }).nextHead

/-- KEY_RELEASE (R71). -/
def execKeyRelease (s : State) : Result State := event s.keyReleaseDue s (s.setLink s.link.releaseKey)

/-! ### Receiving (R74 to R79) -/

/-- A frame begins: its receive stamp is noted, and the receiver enters LENGTH (R74). -/
def Link.beginFrame (l : Link) (stamp : Nat) : Link :=
  { l with rx := .length, bits := [], assembly := some { stamp := stamp, length := none, body := [], crc := [] } }

/-- SYNC_PATTERN_MATCH (R74). -/
def execSyncPatternMatch (bits : Word16) (s : State) : Result State :=
  event (s.link.syncMatched bits) s (s.setLink (s.link.beginFrame s.timer.lineTime))

/-- The receiver returns to HUNT and searches anew with the bits that follow (R75). -/
def Link.hunt (l : Link) : Link := { l with rx := .hunt, bits := [], assembly := none }

/-- FRAME_ABANDONED (R75): a length byte outside 16 to 32 abandons the frame without a tally. -/
def execFrameAbandoned (length : Byte) (s : State) : Result State :=
  event (s.link.badLength length) s (s.setLink s.link.hunt)

/-- A STATUS frame handed off to the peer table (R79, R82 to R89). -/
def State.takeStatus (s : State) (f : Status) (receiveStamp : Nat) : State :=
  match admission f receiveStamp s with
  | .duplicate => s.latch .duplicateNumber
  | .outOfSpan => s.countOutOfSpan
  | .discarded => s
  | .admitted table entry => (s.setPeers table).entryTaken entry

/-- A complete frame examined and handed off (R77 to R79). -/
def State.examine (s : State) (receiveStamp : Nat) (body : List Byte) (crc : Word16) : State :=
  if crc16 (airCovered body) ≠ crc then s.countCrc
  else
    match parseAir body with
    | none => s.countMalformed
    | some (.status f) => s.takeStatus f receiveStamp
    | some (.notice n) => s.takeNotice n

/-- The receive stamp of the frame in assembly (R74, R76). -/
def Link.receiveStamp (l : Link) : Nat := (l.assembly.map (·.stamp)).getD 0

/-- FRAME_COMPLETE (R75, R77 to R79). -/
def execFrameComplete (body : List Byte) (crc : Word16) (s : State) : Result State :=
  event (s.link.frameTaken body crc) s ((s.setLink s.link.hunt).examine s.link.receiveStamp body crc)

end Sys2Proof.Machine
end

