-- ==== Sys2Proof/Machine/StationPort.lean ====
section
/-! DEFINITION. The station port (chapter 10): part states, the effect and answer of every port command, the taking of a command
and its reply (R170, R171), the bytes of the port (R168, R169, R172), power-on reset (R173), and the meanings of the port's rows. -/

namespace Sys2Proof.Machine

/-! ### Resets and START -/

/-- The part after power-on reset (R173). The waiting commands, the input lines and the random source are no block's state and
stay (log 23). -/
def State.powerOn (s : State) : State :=
  { State.reset with pending := s.pending, lines := s.lines, draws := s.draws }

/-- The part after RESTART (R174): as after power-on reset, with the commissioning record and the own survey sequence kept. -/
def State.restarted (s : State) : State :=
  let fresh := s.powerOn
  { fresh with
    port := { fresh.port with params := s.port.params }
    survey := { fresh.survey with ownSeq := s.survey.ownSeq } }

/-- START taken (R180): every block begins its run in one event. -/
def State.begin (s : State) : State :=
  let ps := s.params
  let code := ps.codeOf ps.iInit
  -- the part state, the fixed record's plan tag (R175, R187)
  let s := s.setPort { s.port with part := .running, planTag := ps.notchPlan.tag }
  -- line time counts from the line time to start from (R1, R3, R4)
  let s := s.setTimer
    { s.timer with
      lineTime := s.port.startTime
      tally := 0
      nextEpochEnd := some (multipleAfter s.port.startTime)
      counted := false }
  let s := s.drawTxPoint
  -- ACQUIRE with root 0; the TPI recognizer from rest (R97, R99)
  let s := s.setAlign { Align.reset with timing := .acquire }
  -- the drive enters RAMPING toward the code of I_init (R44, R57)
  let s := s.withDrive { s.drive with setpointCode := code, retryCount := 0 }.enterRamping
  -- I_set becomes I_init, condition UNKNOWN (R119, R121)
  let s := s.setReg { s.reg with iSet := ps.iInit, code := code, driveAtOnRef := false }
  -- the receiver hunts, the idle count starts from 0 (R62)
  let s := s.setLink { s.link with rx := .hunt, idleCount := 0 }
  -- the converter's first slot begins at this tick (R20)
  s.startConverter

/-! ### The effect and answer of each command -/

/-- What a command does and answers: the state after it, its reply code and its reply body (R170). -/
structure Answer where
  state : State
  code : ReplyCode
  body : List Byte
deriving DecidableEq, Repr

/-- A refusal: no state changes and the reply has no body (section 10.1.1). -/
def State.refuse (s : State) (code : ReplyCode) : Answer := { state := s, code := code, body := [] }

/-- An acceptance with a reply body. -/
def State.accept (s : State) (body : List Byte) : Answer := { state := s, code := .ok, body := body }

/-- A state and reply code without a body. -/
def answerOf (x : State × ReplyCode) : Answer := { state := x.1, code := x.2, body := [] }

/-- LOAD PARAMETER (R175, R176). -/
def State.loadParameter (s : State) (n : Nat) (v : Int) : Answer :=
  if paramInRange n v then (s.setPort { s.port with params := s.params.store n v }).accept [] else s.refuse .value

/-- READ PARAMETER (R177). -/
def State.readParameter (s : State) (n : Nat) : Answer :=
  if 1 ≤ n ∧ n ≤ 45 then s.accept (enc8 n ++ enc32s (s.params.value n)) else s.refuse .value

/-- SET LINE TIME (R178). -/
def State.setStartTime (s : State) (t : Nat) : Answer :=
  if t < Config.day then
    ((s.setPort { s.port with startTime := t }).setTimer { s.timer with lineTime := t, counted := false }).accept []
  else s.refuse .value

/-- START (R179, R180). -/
def State.startPart (s : State) : Answer :=
  match s.params.conflict with
  | some n => { state := s, code := .conflict, body := enc8 n }
  | none => s.begin.accept []

/-- The body of PART STATUS, 38 bytes (R181, section 11.5.1). -/
def State.statusBody (s : State) : List Byte :=
  let adopted := s.survey.adoptedEntry
  enc8 s.port.part.code ++ enc8 s.align.timing.code ++ enc16 s.align.root ++ enc32 s.timer.lineTime ++
  enc16 s.timer.tally ++ enc8 s.drive.state.code ++ enc8 s.drive.cause.code ++ enc8 s.drive.retryCount ++
  enc16 s.drive.demand ++ enc16 s.drive.backoff ++ enc16 s.reg.iSet.toNat ++ enc8 s.reg.condition.code ++
  enc8 s.reg.holdCount ++ encId (adopted.map (·.id)) ++ enc8 ((adopted.map (·.state.code)).getD 0) ++
  enc8 s.records.queue.length ++ enc8 s.acq.bankA.state.code ++ enc8 s.acq.bankB.state.code ++
  enc16 s.link.crcTally ++ enc16 s.link.malformedTally ++ enc16 s.link.outOfSpanTally ++
  enc16 s.link.txDropTally ++ enc16 s.port.errors

/-- READ ATTENTION (R167). -/
def State.readAttention (s : State) : Answer := s.clearAttention.accept (enc8 s.port.attention.code)

/-- READ RECORDS (R163). -/
def State.readRecords (s : State) (n : Nat) : Answer :=
  if ¬ (1 ≤ n ∧ n ≤ 4) then s.refuse .value
  else if s.records.queue.isEmpty then s.refuse .empty
  else
    let (taken, left) := s.records.read n
    (s.setRecords left).accept
      (enc8 s.records.discards ++ enc8 taken.length ++ taken.flatMap CycleRecord.enc)

/-- The body of PEER LIST (R96). -/
def State.peerListBody (s : State) : List Byte :=
  enc8 s.peers.length ++ s.peers.flatMap fun p => p.enc (p.age s.timer.tally)

/-- The body of SURVEY LIST (R158). -/
def State.surveyListBody (s : State) : List Byte :=
  enc8 s.survey.table.length ++ s.survey.table.flatMap SurveyEntry.enc

/-- The bank the port holds (R33). -/
def Acq.heldBank (a : Acq) : Option BankId :=
  if a.bankA.state = .held then some .a else if a.bankB.state = .held then some .b else none

/-- The SEALED bank sealed more recently (R38). -/
def Acq.newestSealed (a : Acq) : Option BankId :=
  if a.bankA.state = .sealed ∧ a.bankB.state = .sealed then some (if a.newer = some .a then .a else .b)
  else if a.bankA.state = .sealed then some .a
  else if a.bankB.state = .sealed then some .b
  else none

/-- CAPTURE OPEN (R38). -/
def State.captureOpen (s : State) : Answer :=
  if s.acq.heldBank.isSome then s.refuse .busy
  else
    match s.acq.newestSealed with
    | none => s.refuse .empty
    | some id =>
      (s.setAcq (s.acq.setBank id { s.acq.bank id with state := .held })).accept (enc8 id.code)

/-- CAPTURE FETCH (R182). -/
def State.captureFetch (s : State) (first count : Nat) : Answer :=
  match s.acq.heldBank with
  | none => s.refuse .state
  | some id =>
    let b := s.acq.bank id
    if ¬ (1 ≤ count ∧ count ≤ 32) ∨ b.entries.length < first then s.refuse .value
    else
      let es := (b.entries.drop first).take count
      s.accept (b.encHeader first es.length ++ es.flatMap Entry.enc)

/-- CAPTURE CLOSE (R39, R183): the held bank is FREE and emptied, and a pending take is made on it. -/
def State.captureClose (s : State) : Answer :=
  match s.acq.heldBank with
  | none => s.refuse .state
  | some id => (s.setAcq (s.acq.setBank id Bank.empty).makePendingTake).accept []

/-- OUTPUT OFF (R58). -/
def State.outputOff (s : State) : Answer :=
  match s.drive.state with
  | .ramping | .on | .tripped => (s.withDrive (s.drive.shutDown .halted)).accept []
  | .halted => s.accept []
  | .lockout => s.refuse .state

/-- OUTPUT ON (R59). -/
def State.outputOn (s : State) : Answer :=
  match s.drive.state with
  | .halted => (s.withDrive { s.drive with retryCount := 0 }.enterRamping).accept []
  | .ramping | .on | .tripped | .lockout => s.refuse .state

/-- CLEAR FAULT (R60). -/
def State.clearFault (s : State) : Answer :=
  match s.drive.state with
  | .tripped | .lockout =>
    (s.withDrive { s.drive with retry := none, retryCount := 0, cause := .noCause }.enterRamping).accept []
  | .halted | .ramping | .on => s.refuse .state

/-- The effect and answer of a command allowed in the part state (R171, check 4). -/
def State.perform (s : State) : PortCommand → Answer
  | .loadParameter n v => s.loadParameter n v
  | .readParameter n => s.readParameter n
  | .setLineTime t => s.setStartTime t
  | .start => s.startPart
  | .partStatus => s.accept s.statusBody
  | .readAttention => s.readAttention
  | .readRecords n => s.readRecords n
  | .peerList => s.accept s.peerListBody
  | .surveyList => s.accept s.surveyListBody
  | .captureOpen => s.captureOpen
  | .captureFetch first count => s.captureFetch first count
  | .captureClose => s.captureClose
  | .surveyStart args => answerOf (s.startSurvey args)
  | .surveyHalt => answerOf s.haltSurvey
  | .outputOff => s.outputOff
  | .outputOn => s.outputOn
  | .clearFault => s.clearFault
  | .restart => s.restarted.accept []

/-! ### Taking a command (R170, R171) -/

/-- The reply of a taken command is in progress from this tick, and the port is REPLYING (R170). -/
def State.reply (s : State) (command : Byte) (code : ReplyCode) (body : List Byte) : State :=
  s.setPort
    { s.port with
      state := .replying
      length := none
      bytes := []
      reply := some { code := code, command := command, body := body }
      replyTick := s.timer.elapsed }

/-- A command is taken: refused with STATE in a part state that does not allow it, else performed; then its reply begins
(R170, R171). -/
def State.takeCommand (s : State) (c : PortCommand) : State :=
  let a := if c.allowedIn s.port.part then s.perform c else s.refuse .state
  a.state.reply c.code a.code a.body

/-- The command of a row is taken: its frame has just arrived whole. A command cannot be taken while a reply is in progress
(R170; DESIGN CHOICE, log 5). -/
def portRow (c : PortCommand) (s : State) : Result State :=
  event (s.port.state ≠ .replying) s (s.takeCommand c)

/-! ### Bytes (R168 to R172) -/

/-- A whole command frame with a matching CRC is taken (R170, R171). -/
def State.takeFrame (s : State) (code : Byte) (ps : List Byte) : State :=
  match parsePort code ps with
  | .unknown => s.reply code .unknown []
  | .badLength => s.reply code .value []
  | .command c => s.takeCommand c

/-- The port is IDLE with no frame in assembly. -/
def State.portIdle (s : State) : State := s.setPort { s.port with state := .idle, length := none, bytes := [] }

/-- A command frame of length L with all its bytes: taken when its CRC-8 matches, else discarded and counted (R170). -/
def State.frameEnds (s : State) (l : Nat) (bytes : List Byte) : State :=
  match bytes with
  | [] => s
  | code :: rest =>
    if crc8 (enc8 l ++ bytes.take l) = bytes.getD l 0 then s.takeFrame code (rest.take (l - 1))
    else s.portIdle.countPortError

/-- A byte in RECEIVING: it joins the frame in assembly (R168). -/
def State.receiveByte (s : State) (b : Byte) : State :=
  let s := s.setPort { s.port with lastByte := s.timer.elapsed }
  match s.port.length with
  | none =>
    if b = 0 then s.portIdle.countPortError else s.setPort { s.port with length := some b.toNat }
  | some l =>
    let bytes := s.port.bytes ++ [b]
    let s := s.setPort { s.port with bytes := bytes }
    if bytes.length = l + 1 then s.frameEnds l bytes else s

/-- PORT_BYTE (R168, R170). -/
def execPortByte (b : Byte) (s : State) : Result State :=
  match s.port.state with
  | .idle =>
    if b = Config.startByte then
      .next (s.setPort
        { s.port with state := .receiving, length := none, bytes := [], lastByte := s.timer.elapsed })
    else .next s.countPortError
  | .receiving => .next (s.receiveByte b)
  | .replying => .next s.countPortError

/-- Fifty-one elapsed ticks have passed since the last byte of a frame in assembly (R169). -/
abbrev State.portGapDue (s : State) : Prop :=
  s.port.state = .receiving ∧ Config.portGap ≤ ticksSince s.timer.elapsed s.port.lastByte

/-- PORT_GAP_TIMEOUT (R169). -/
def execPortGapTimeout (s : State) : Result State := event s.portGapDue s s.portIdle.countPortError

/-- The stop bit of the reply's CRC byte has left the line, at 10,000 / 3,840 ticks a byte (section 10.1, R170; DEDUCED, log 6). -/
abbrev State.replyDue (s : State) : Prop :=
  s.port.state = .replying ∧ ∃ r ∈ s.port.reply,
    r.frame.length * 1000 ≤ ticksSince s.timer.elapsed s.port.replyTick * 384

/-- REPLY_SENT (R170). -/
def execReplySent (s : State) : Result State :=
  event s.replyDue s (s.setPort { s.port with state := .idle, reply := none })

/-! ### The port's rows -/

/-- POWER_ON_RESET (R173). -/
def execPowerOnReset (s : State) : Result State := .next s.powerOn

/-- UNKNOWN_COMMAND (R171): a frame with a code that is none of section 10.4's is refused with UNKNOWN. -/
def execUnknownCommand (code : Byte) (s : State) : Result State :=
  event (parsePort code [] = .unknown ∧ s.port.state ≠ .replying) s (s.reply code .unknown [])

/-- LOAD_PARAMETER (R176). -/
def execLoadParameter (number : Nat) (value : Int) (s : State) : Result State := portRow (.loadParameter number value) s

/-- READ_PARAMETER (R177). -/
def execReadParameter (number : Nat) (s : State) : Result State := portRow (.readParameter number) s

/-- SET_LINE_TIME (R178). -/
def execSetLineTime (time : Nat) (s : State) : Result State := portRow (.setLineTime time) s

/-- START (R179, R180). -/
def execStart (s : State) : Result State := portRow .start s

/-- PART_STATUS (R181). -/
def execPartStatus (s : State) : Result State := portRow .partStatus s

/-- READ_ATTENTION (R167). -/
def execReadAttention (s : State) : Result State := portRow .readAttention s

/-- READ_RECORDS (R163). -/
def execReadRecords (count : Nat) (s : State) : Result State := portRow (.readRecords count) s

/-- PEER_LIST (R96). -/
def execPeerList (s : State) : Result State := portRow .peerList s

/-- SURVEY_LIST (R158). -/
def execSurveyList (s : State) : Result State := portRow .surveyList s

/-- CAPTURE_OPEN (R38). -/
def execCaptureOpen (s : State) : Result State := portRow .captureOpen s

/-- CAPTURE_FETCH (R182). -/
def execCaptureFetch (first count : Nat) (s : State) : Result State := portRow (.captureFetch first count) s

/-- CAPTURE_CLOSE (R183). -/
def execCaptureClose (s : State) : Result State := portRow .captureClose s

/-- SURVEY_START (R142, R143). -/
def execSurveyStart (args : SurveyArgs) (s : State) : Result State := portRow (.surveyStart args) s

/-- SURVEY_HALT (R149). -/
def execSurveyHalt (s : State) : Result State := portRow .surveyHalt s

/-- OUTPUT_OFF (R58). -/
def execOutputOff (s : State) : Result State := portRow .outputOff s

/-- OUTPUT_ON (R59). -/
def execOutputOn (s : State) : Result State := portRow .outputOn s

/-- CLEAR_FAULT (R60). -/
def execClearFault (s : State) : Result State := portRow .clearFault s

/-- RESTART (R174). -/
def execRestart (s : State) : Result State := portRow .restart s

end Sys2Proof.Machine
end

