-- ==== Sys2Proof/Machine/Dispatch.lean ====
section
/-! DEFINITION. The dispatch from a command to its meaning: one arm per row of spec/opcode_table.json, in the table's order. -/

namespace Sys2Proof.Machine

def exec (i : Instr) (s : State) : Host.Outcome State Fault Refusal :=
  match i with
  | .powerOnReset => Sys2Proof.Machine.execPowerOnReset s
  | .epochEnd => Sys2Proof.Machine.execEpochEnd s
  | .transmissionPoint => Sys2Proof.Machine.execTransmissionPoint s
  | .onReferenceStart => Sys2Proof.Machine.execOnReferenceStart s
  | .offStart => Sys2Proof.Machine.execOffStart s
  | .offEnd => Sys2Proof.Machine.execOffEnd s
  | .markPulseEnd => Sys2Proof.Machine.execMarkPulseEnd s
  | .conversionSlot code => Sys2Proof.Machine.execConversionSlot code s
  | .rampTick => Sys2Proof.Machine.execRampTick s
  | .retryExpiry => Sys2Proof.Machine.execRetryExpiry s
  | .cleanRun => Sys2Proof.Machine.execCleanRun s
  | .tpiArm => Sys2Proof.Machine.execTpiArm s
  | .tpiPulse => Sys2Proof.Machine.execTpiPulse s
  | .anchorLoss => Sys2Proof.Machine.execAnchorLoss s
  | .idleGap => Sys2Proof.Machine.execIdleGap s
  | .backoffEnd => Sys2Proof.Machine.execBackoffEnd s
  | .preamble => Sys2Proof.Machine.execPreamble s
  | .stamp => Sys2Proof.Machine.execStamp s
  | .keyRelease => Sys2Proof.Machine.execKeyRelease s
  | .frameComplete body crc => Sys2Proof.Machine.execFrameComplete body crc s
  | .surveyBegin => Sys2Proof.Machine.execSurveyBegin s
  | .surveyEnd => Sys2Proof.Machine.execSurveyEnd s
  | .portByte b => Sys2Proof.Machine.execPortByte b s
  | .portGapTimeout => Sys2Proof.Machine.execPortGapTimeout s
  | .replySent => Sys2Proof.Machine.execReplySent s
  | .unknownCommand code => Sys2Proof.Machine.execUnknownCommand code s
  | .loadParameter number value => Sys2Proof.Machine.execLoadParameter number value s
  | .readParameter number => Sys2Proof.Machine.execReadParameter number s
  | .setLineTime time => Sys2Proof.Machine.execSetLineTime time s
  | .start => Sys2Proof.Machine.execStart s
  | .partStatus => Sys2Proof.Machine.execPartStatus s
  | .readAttention => Sys2Proof.Machine.execReadAttention s
  | .readRecords count => Sys2Proof.Machine.execReadRecords count s
  | .peerList => Sys2Proof.Machine.execPeerList s
  | .surveyList => Sys2Proof.Machine.execSurveyList s
  | .captureOpen => Sys2Proof.Machine.execCaptureOpen s
  | .captureFetch first count => Sys2Proof.Machine.execCaptureFetch first count s
  | .captureClose => Sys2Proof.Machine.execCaptureClose s
  | .surveyStart args => Sys2Proof.Machine.execSurveyStart args s
  | .surveyHalt => Sys2Proof.Machine.execSurveyHalt s
  | .outputOff => Sys2Proof.Machine.execOutputOff s
  | .outputOn => Sys2Proof.Machine.execOutputOn s
  | .clearFault => Sys2Proof.Machine.execClearFault s
  | .restart => Sys2Proof.Machine.execRestart s
  | .lineTick radio tpi => Sys2Proof.Machine.execLineTick radio tpi s
  | .syncPatternMatch bits => Sys2Proof.Machine.execSyncPatternMatch bits s
  | .frameAbandoned length => Sys2Proof.Machine.execFrameAbandoned length s

end Sys2Proof.Machine
end

