-- ==== Sys2Proof/Safety.lean ====
section
/-! DEFINITION. What a safe run is, in the terms that the statements use: the outputs that the spec promises the power stage and the
station computer at every moment, the ranges and orders the spec gives the blocks' state, and which events are due in a state. -/

namespace Sys2Proof.Safety

open Sys2Proof.Machine

/-! ### Laws of the state -/

/-- SWITCH is closed exactly while the drive state is RAMPING or ON and the window state is not OFF (R41). -/
abbrev SwitchLaw (s : State) : Prop := s.drive.switchClosed = switchFor s.drive.state s.timer.window

/-- A window is open exactly while a pair is in progress (R7). -/
abbrev WindowLaw (s : State) : Prop := s.timer.pair = none ↔ s.timer.window = .noWindow

/-- The drive's codes lie in 0 to 4,095; in HALTED, TRIPPED and LOCKOUT the demand, the backoff, the ramp timer and both filter
runs are 0; outside ON no clean run is timed; the open-circuit run is 0 whenever its filter is disarmed (R42, R46, R50). -/
abbrev DriveLaw (s : State) : Prop :=
  s.drive.demand ≤ 4095 ∧ s.drive.setpointCode ≤ 4095 ∧ s.drive.rampTarget ≤ 4095 ∧ s.drive.backoff ≤ 4095 ∧
    s.reg.code ≤ 4095 ∧ s.drive.rampTimer ≤ 1000 ∧ s.drive.overRun ≤ 1 ∧
    (¬ (s.drive.state = .ramping ∨ s.drive.state = .on) →
      s.drive.demand = 0 ∧ s.drive.backoff = 0 ∧ s.drive.rampTimer = 0 ∧ s.drive.overRun = 0 ∧ s.drive.openRun = 0) ∧
    (s.drive.state ≠ .on → s.drive.cleanRun = none) ∧ (¬ s.drive.openArmed → s.drive.openRun = 0)

/-- The retry count never exceeds the retry limit, and lies below it while a retry is armed, which is in TRIPPED alone (R51,
R52). -/
abbrev RetryLaw (s : State) : Prop :=
  s.drive.retryCount ≤ s.params.retryLimit ∧ (s.drive.retry.isSome ↔ s.drive.state = .tripped) ∧
    (s.drive.state = .tripped → s.drive.retryCount < s.params.retryLimit)

/-- ATTN is asserted while the attention set holds a reason and released while it is empty (R166). -/
abbrev AttnLaw (s : State) : Prop := s.port.attn = decide (s.port.attention ≠ Attention.empty)

/-- The record queue holds at most 64 records, the discard count lies in 0 to 255, and it is 0 while the queue is empty (R161 to
R163). -/
abbrev RecordsLaw (s : State) : Prop :=
  s.records.queue.length ≤ 64 ∧ s.records.discards ≤ 255 ∧ (s.records.queue = [] → s.records.discards = 0)

/-- The transmit queue holds at most 6 frames, of which at most one is a STATUS frame (R65). -/
abbrev TxQueueLaw (s : State) : Prop := s.link.queue.length ≤ 6 ∧ s.link.queue.count .status ≤ 1

/-- The head waits in DEFER or BACKOFF exactly while the queue is not empty and the transmitter holds no frame; IDLE means that
the queue is empty; W is 16, 32 or 64, and a head has at most 7 busy findings behind it (section 4.3, R65, R69, R70). -/
abbrev AccessLaw (s : State) : Prop :=
  ((s.link.tx = .defer ∨ s.link.tx = .backoff) ↔ (s.link.queue ≠ [] ∧ s.link.frame = none)) ∧
    (s.link.tx = .idle → s.link.queue = []) ∧ (s.link.window = 16 ∨ s.link.window = 32 ∨ s.link.window = 64) ∧
    s.link.attempts ≤ 8 ∧ (s.link.queue ≠ [] → s.link.attempts ≤ 7)

/-- KEY is asserted exactly in KEYED and SENDING, while a frame is in the transmitter, and the receiver is then OFF (R71). -/
abbrev KeyLaw (s : State) : Prop :=
  (s.link.key = true ↔ (s.link.tx = .keyed ∨ s.link.tx = .sending)) ∧ (s.link.frame.isSome ↔ s.link.key = true) ∧
    (s.link.key = true → s.link.rx = .off)

/-- p stands before q in table order: ascending chainage, then ascending station number (R81). -/
abbrev TableOrder (p q : Peer) : Prop :=
  p.chainage < q.chainage ∨ (p.chainage = q.chainage ∧ p.station < q.station)

/-- The peer table stands in table order, holds no station twice, at most 8 entries, and none with the own number (R81). -/
abbrev PeersLaw (s : State) : Prop :=
  s.peers.Pairwise TableOrder ∧ (s.peers.map Peer.station).Nodup ∧ s.peers.length ≤ 8 ∧
    ∀ p ∈ s.peers, p.station ≠ s.params.station

/-- The notice table holds at most 4 entries, no identity twice, and at most one adopted entry (R139). -/
abbrev NoticesLaw (s : State) : Prop :=
  s.survey.table.length ≤ 4 ∧ (s.survey.table.map SurveyEntry.id).Nodup ∧
    (s.survey.table.filter fun e => decide (e.state = .pending ∨ e.state = .active)).length ≤ 1

/-- Line time lies in the line day and the elapsed-tick count in its 32 bits (R1, R2). -/
abbrev TimeLaw (s : State) : Prop :=
  s.timer.lineTime < 864000000 ∧ s.timer.elapsed < 4294967296 ∧ s.port.startTime < 864000000 ∧ s.timer.tally < 65536

/-- In SETUP every block rests at its power-on values, but for the elapsed-tick count, line time, which is the line time to start
from, the own survey sequence number and the port (R3, R4, R19, R20, R40, R62, R81, R97, R121, R139, R161, R164, R181). -/
abbrev SetupLaw (s : State) : Prop :=
  s.port.part = .setup →
    s.timer = { Timer.reset with lineTime := s.port.startTime, elapsed := s.timer.elapsed } ∧ s.align = Align.reset ∧
      s.acq = Acq.reset ∧ s.drive = Drive.reset ∧ s.reg = Reg.reset ∧ s.link = Link.reset ∧ s.peers = [] ∧
      s.survey.table = [] ∧ s.records = Records.reset ∧ s.port.attention = Attention.empty ∧ s.port.attn = false

/-- In RUNNING the timing state is never STOPPED, the converter runs, and the next epoch end is a multiple of 100,000 in the line
day (R3, R20, R73). -/
abbrev RunningLaw (s : State) : Prop :=
  s.port.part = .running →
    s.align.timing ≠ .stopped ∧ s.acq.running = true ∧
      ∃ e ∈ s.timer.nextEpochEnd, e % 100000 = 0 ∧ e < 864000000

/-- The alignment unit's counts and its pending correction stay in their ranges (chapter 6, R101, R105, R107, R109 to R111). -/
abbrev AlignLaw (s : State) : Prop :=
  s.align.acquireCount ≤ 2 ∧ s.align.lowerStreak ≤ 2 ∧ s.align.lostStreak ≤ 5 ∧ -20 ≤ s.align.pendingCorr ∧
    s.align.pendingCorr ≤ 20 ∧ s.align.lowRun ≤ 1000 ∧ s.align.highRun ≤ 2 ∧ s.align.pulseStreak ≤ 3

/-- In RUNNING the setpoint lies in I_floor to I_ceil (R121). -/
abbrev SetpointLaw (s : State) : Prop :=
  s.port.part = .running → s.params.iFloor ≤ s.reg.iSet ∧ s.reg.iSet ≤ s.params.iCeil

/-- Every parameter is within its range of section 10.3 or equal to its default (R175). -/
abbrev ParamsLaw (s : State) : Prop :=
  ∀ k : Fin 45, paramInRange (k + 1) s.params[k] ∨ s.params[k] = defaultParams[k]

/-! ### Replies -/

/-- A reply is in progress: this code, for this command, with this body (R170). -/
abbrev Replies (t : State) (command : Byte) (code : ReplyCode) (body : List Byte) : Prop :=
  t.port.state = .replying ∧ t.port.reply = some { code := code, command := command, body := body }

/-- The state t with the port's own reply and frame as s has them: what a command changed besides (section 10.1.1). -/
def besidesReply (s t : State) : State :=
  { t with
    port :=
      { t.port with
        state := s.port.state
        length := s.port.length
        bytes := s.port.bytes
        reply := s.port.reply
        replyTick := s.port.replyTick } }

/-- The command was answered with this code and body, and changed the part only as `u` says. -/
abbrev Answers (s t : State) (command : Byte) (code : ReplyCode) (body : List Byte) (u : State) : Prop :=
  Replies t command code body ∧ besidesReply s t = u

/-- A reason is latched into an attention set, and ATTN asserted (R164, R166). -/
def latched (p : Port) (r : Reason) : Port :=
  match r with
  | .records => { p with attention := { p.attention with records := true }, attn := true }
  | .driveTrip => { p with attention := { p.attention with driveTrip := true }, attn := true }
  | .driveLockout => { p with attention := { p.attention with driveLockout := true }, attn := true }
  | .timingLost => { p with attention := { p.attention with timingLost := true }, attn := true }
  | .duplicateNumber => { p with attention := { p.attention with duplicateNumber := true }, attn := true }
  | .regHold => { p with attention := { p.attention with regHold := true }, attn := true }
  | .survey => { p with attention := { p.attention with survey := true }, attn := true }

/-! ### Epoch ends and shifts of line time, as the statements speak of them -/

/-- An epoch end has fired at a multiple of 100,000 in the line day and waits for its work (R3): all of it, with the next epoch end
still at the multiple, or already 100,000 on after a correction of the same tick (R14), or, after a step of the same tick, the rest of
it (the model's choice, log 32). -/
def epochEndWaits (t : Timer) : Bool :=
  match t.epochWork with
  | .nothing => false
  | .whole m =>
    decide (m % 100000 = 0 ∧ m < 864000000 ∧
      (t.nextEpochEnd = some m ∨ t.nextEpochEnd = some ((m + 100000) % 864000000)))
  | .rest => true

/-- In RUNNING an epoch end has fired and waits for its work (R3). -/
abbrev AtEpochEnd (s : State) : Prop := s.port.part = .running ∧ epochEndWaits s.timer = true

/-- What every epoch end does: the tally rises, the next epoch end is 100,000 on from the multiple, a transmission point r ticks
into the epoch that begins there is armed with one free draw, and entries whose age has reached 12 leave the peer table (R3, R4, R91).
After a step in the same tick the next epoch end and the transmission point that the step set stand (the model's choice, log 32). -/
def epochCounted (s : State) (r : Nat) : State :=
  let counted := { s.timer with tally := (s.timer.tally + 1) % 65536, epochWork := .nothing }
  let kept := s.peers.filter fun p => decide (((s.timer.tally + 1) % 65536 + 65536 - p.lastHeard) % 65536 < 12)
  match s.timer.epochWork with
  | .whole m =>
    { s with
      timer :=
        { counted with
          nextEpochEnd := some ((m + 100000) % 864000000), txPoint := some ((m + r) % 864000000) }
      peers := kept
      draws := s.draws + 1 }
  | .nothing | .rest => { s with timer := counted, peers := kept }

/-- Line time c ticks on, in the line day (R1). -/
def shifted (t : Nat) (c : Int) : Nat := ((t + c) % 864000000).toNat

/-- An entry's offset after line time moved by c (R93). -/
def movedOffset (p : Peer) (c : Int) : Peer :=
  { p with offset := (p.offset - c + 432000000) % 864000000 - 432000000 }

/-- A merge candidate of the station: fresh, plan matched, in FREE, TRACKING or ANCHORED, with a lower root (R106). -/
abbrev MergeCandidate (s : State) (p : Peer) : Prop :=
  p ∈ s.peers ∧ (s.timer.tally + 65536 - p.lastHeard) % 65536 ≤ 2 ∧ p.planMatch = true ∧
    (p.timing = .free ∨ p.timing = .tracking ∨ p.timing = .anchored) ∧ p.root < s.align.root

/-- A synchronized peer of the station (R94). -/
abbrev SynchronizedPeer (s : State) (p : Peer) : Prop :=
  p ∈ s.peers ∧ (s.timer.tally + 65536 - p.lastHeard) % 65536 ≤ 2 ∧ p.planMatch = true ∧
    (p.timing = .free ∨ p.timing = .tracking ∨ p.timing = .anchored) ∧ p.root = s.align.root

/-- p is the pair of a plan at line time t, numbered as the next to open: the check notch of the epoch that holds t, or the cycle of
the adopted survey that holds t, with its three positions (R9, R11, R12). -/
abbrev PairAt (s : State) (plan : Plan) (t : Nat) (p : Pair) : Prop :=
  p.serial = s.timer.opened ∧ ∃ off : Int,
    (plan = .steady ∧ t / 100000 % s.params.nat 6 = 0 ∧ p.kind = .check ∧ p.index = t / 100000 ∧ p.survey = none ∧
      off = p.index * 100000 + s.params.nat 7 +
        ditherAt ((ditherOfCode (s.params.nat 8)).getD .noDither) p.index (s.params.nat 9) ∧
      p.onRefStart = shifted 0 (off - s.params.nat 13) ∧ p.offStart = shifted 0 off ∧
      p.offEnd = shifted 0 (off + s.params.nat 10)) ∨
    (∃ e v, plan = .survey ∧ s.survey.adoptedEntry = some e ∧ e.params = some v ∧ p.kind = .survey ∧
      p.index = shifted t (-v.start) / v.cycle ∧ p.survey = some e.id ∧
      off = v.start + p.index * v.cycle + v.cycle - v.offLen - ditherAt v.dither p.index v.ditherSpan ∧
      p.onRefStart = shifted 0 (off - min (s.params.nat 13) (v.cycle - v.offLen - v.ditherSpan - 1000)) ∧
      p.offStart = shifted 0 off ∧ p.offEnd = shifted 0 (off + v.offLen))

/-- A correction to line time t opens p: t lies at or past its on-reference start and before its off start (R15), and the start had not
passed before the correction (R6, R12, R160; the model's reading, log 8). -/
abbrev OpensAt (s : State) (t : Nat) (p : Pair) : Prop :=
  atOrPast t p.onRefStart ∧ before t p.offStart ∧
    (before s.timer.lineTime p.onRefStart ∨ (s.timer.lineTime = p.onRefStart ∧ s.timer.counted = true))

/-- What a correction applied with no pair in progress makes of the pairs: it opens the pair of the executed plan at the new line time
where R15 says so, with its sums and ring empty and the drive state noted for a check pair, and else none is in progress. -/
abbrev CorrectionOpens (s t : State) : Prop :=
  (∀ p, PairAt s (s.survey.planAt t.timer.lineTime) t.timer.lineTime p → OpensAt s t.timer.lineTime p →
    t.timer.pair = some p ∧ t.timer.window = .onReference ∧
      (∃ w, t.acq.current = some w ∧ w.pair = p ∧ w.onSums = { psp := ⟨0, 0⟩, outi := ⟨0, 0⟩, outv := ⟨0, 0⟩ } ∧
        w.figures = none ∧ w.ring = []) ∧
      (p.kind = .check → t.reg.driveAtOnRef = decide (s.drive.state = .on))) ∧
    ((∀ p, PairAt s (s.survey.planAt t.timer.lineTime) t.timer.lineTime p → ¬ OpensAt s t.timer.lineTime p) →
      t.timer.pair = none ∧ t.timer.window = s.timer.window ∧ t.acq = s.acq)

/-- The regulator when the executed plan becomes SURVEY (R136). -/
def surveyHeld (g : Reg) : Reg := { g with condition := .hold, holdReason := some .survey, amount := none }

/-- The part as a step of d ticks finds it when it hands over the reduction of the pair it abandons: line time and the offsets have
moved, no pair is in progress, and SWITCH is closed in RAMPING and ON (R17, R18, R41; the order is the model's, log 9). -/
def atStep (s : State) (d : Int) : State :=
  { s with
    timer := { s.timer with lineTime := shifted s.timer.lineTime d, pair := none, window := .noWindow }
    peers := s.peers.map fun p => movedOffset p d
    drive := { s.drive with switchClosed := decide (s.drive.state = .ramping ∨ s.drive.state = .on) } }

/-- The reduction of an abandoned pair: its on-reference figures where they were completed, E_off absent, spread 0, and the flags of
its bank with ABANDONED (R30, R37). -/
abbrev AbandonedReduction (s : State) (w : PairWork) (r : Reduction) : Prop :=
  r.kind = w.pair.kind ∧ r.index = w.pair.index ∧ r.survey = w.pair.survey ∧ r.eOn = w.figures.map (fun f => f.eOn) ∧
    r.iOn = (w.figures.map (fun f => f.iOn)).getD 0 ∧ r.vOn = (w.figures.map (fun f => f.vOn)).getD 0 ∧ r.eOff = none ∧
    r.spread = 0 ∧ r.setCount = 0 ∧ r.short = decide (w.offSet.count < s.params.nat 12) ∧ r.abandoned = true ∧
    (∀ id h, w.bank = some id → (s.acq.bank id).header = some h → r.truncated = h.truncated)

/-- The link controller after line time moved by c ticks: the receive stamp of a frame in assembly moves with it, and nothing else does
(R76). -/
def stampMoved (l : Link) (c : Int) : Link :=
  { l with assembly := l.assembly.map fun f => { f with stamp := shifted f.stamp c } }

/-- The port p with SURVEY latched when the adopted survey of s has become ACTIVE, ENDED or HALTED in t (R153, R165). -/
def surveyLatched (s t : State) (p : Port) : Port :=
  if ∃ e ∈ s.survey.adoptedEntry, ∃ x ∈ t.survey.table, x.id = e.id ∧ x.state ≠ e.state ∧ x.state ≠ .pending then
    latched p .survey
  else p

/-- A slot has started at this very tick (R20). -/
abbrev SlotStarts (s : State) : Prop := s.acq.slot ≠ none ∧ s.acq.slotStart = s.timer.elapsed

/-- The slot of window state NONE that slot 0 is: on OUTI, of no pair, with SWITCH as it stands (R21, R22). -/
def slotZero (switchClosed : Bool) : Tag where
  channel := .outi
  role := .noWindow
  pair := none
  offset := 0
  switchClosed := switchClosed
  seq := 0

/-- What a step of d ticks does to the pair in progress: it is abandoned, with the window state NONE, its bank sealed ABANDONED and the
more recently sealed, a pending take cancelled, and its reduction handed at once to the regulator or the survey unit; when the step
makes the executed plan SURVEY the condition is HOLD with reason SURVEY after it (R17, R18, R30, R34, R37, R136). The port has latched
what the pair's record makes due, RECORDS, and REG_HOLD of a check pair (R126, R165), and SURVEY. The sequence count returns to 0 (R21),
the slot in progress keeps its tags (R30), but a slot that has started at this tick is slot 0 of window state NONE (the model's reading,
log 11); the conversion in the pipeline stage keeps its own. -/
abbrev StepAbandons (s t : State) (d : Int) : Prop :=
  t.timer.pair = none ∧ t.timer.window = .noWindow ∧ t.timer.plan = s.survey.planAt (shifted s.timer.lineTime d) ∧
    (¬ SlotStarts s → t.acq.seq = 0 ∧ t.acq.slot = s.acq.slot) ∧
    (SlotStarts s → t.acq.seq = 1 ∧ t.acq.slot = some (slotZero t.drive.switchClosed)) ∧
    t.acq.running = s.acq.running ∧ t.acq.slotStart = s.acq.slotStart ∧ t.acq.pipe = s.acq.pipe ∧
    t.acq.discardFirst = s.acq.discardFirst ∧
    ∀ w, s.acq.current = some w → ∃ r u, AbandonedReduction s w r ∧
      u = (if r.kind = .check then (atStep s d).regulate r else (atStep s d).surveyReduction r) ∧
      t.records = u.records ∧ t.drive = u.drive ∧ t.port = surveyLatched s t u.port ∧
      t.reg = (if s.timer.plan = .steady ∧ t.timer.plan = .survey then surveyHeld u.reg else u.reg) ∧
      t.acq.current = none ∧ t.acq.pendingTake = false ∧ t.acq.flushing = s.acq.flushing ∧
      t.acq.latestCurrent = s.acq.latestCurrent ∧
      (w.bank = none → t.acq.newer = s.acq.newer ∧ t.acq.bankA = s.acq.bankA ∧ t.acq.bankB = s.acq.bankB) ∧
      (∀ id h, w.bank = some id → (s.acq.bank id).header = some h →
        t.acq.newer = some id ∧ t.acq.bank id.other = s.acq.bank id.other ∧ t.acq.bank id =
          { s.acq.bank id with state := .sealed, header := some { h with short := r.short, abandoned := true } })

/-- The distance of a chainage from the station's own (chapter 5). -/
def span (s : State) (chainage : Nat) : Nat := ((chainage : Int) - s.params.chainage).natAbs

/-! ### Results that several statements name -/

/-- q is x / d rounded to the nearest integer, a half moving away from zero (section 6.3 of 00_scope.md). -/
abbrev Rounded (x : Int) (d : Nat) (q : Int) : Prop :=
  2 * (x - q * d).natAbs ≤ d ∧ (2 * (x - q * d).natAbs = d → x.natAbs < (q * d).natAbs)

/-- The drive in HALTED, TRIPPED or LOCKOUT, with SWITCH open and every timer but the retry timer at rest (R41, R42, R46). -/
def outputGone (d : Drive) (state : DriveState) : Drive :=
  { d with
    state := state
    demand := 0
    backoff := 0
    rampTimer := 0
    overRun := 0
    openRun := 0
    cleanRun := none
    retry := none
    switchClosed := false }

/-- The drive at an entry to RAMPING (R41, R44). -/
def rampBegun (s : State) (d : Drive) : Drive :=
  { d with
    state := .ramping
    demand := 0
    rampTarget := d.setpointCode
    rampTimer := 0
    overRun := 0
    openRun := 0
    switchClosed := decide (s.timer.window ≠ .off) }

/-- The part after a trip with this cause: TRIPPED with a retry armed below the retry limit, else LOCKOUT (R51). -/
def afterTrip (s : State) (cause : TripCause) : State :=
  if (s.drive.retryCount : Int) < s.params.value 29 then
    { s with
      drive :=
        { outputGone s.drive .tripped with
          cause := cause
          retry := some ((s.timer.elapsed + (s.params.value 28).toNat * 10000) % 4294967296) }
      port := latched s.port .driveTrip }
  else { s with drive := { outputGone s.drive .lockout with cause := cause }, port := latched s.port .driveLockout }

/-- The SURVEY record of a survey reduction, filled as the blocks stand (R155, R159). -/
def surveyRecord (s : State) (r : Reduction) : CycleRecord where
  kind := r.kind
  index := r.index
  survey := r.survey
  eOn := r.eOn
  eOff := r.eOff
  spread := r.spread
  iOn := r.iOn
  vOn := r.vOn
  setpoint := s.reg.iSet
  condition := s.reg.condition
  holdReason := s.reg.holdReason
  vlimit := decide (0 < s.drive.backoff)
  truncated := r.truncated
  abandoned := r.abandoned
  short := r.short
  driveFlag := decide (s.drive.state ≠ .on)
  timing := s.align.timing
  syncPeers := (s.peers.filter fun p => decide (SynchronizedPeer s p ∧ span s p.chainage ≤ s.params.nat 41)).length

/-- The slot that starts when a slot ends: the channel of its number in the window state, its role and pair, its offset from the
off start in the off window, and SWITCH as it stands (R21, R22). -/
def nextSlot (s : State) (switchClosed : Bool) : Tag where
  channel :=
    match s.timer.window with
    | .noWindow => if s.acq.seq % 2 = 0 then .outi else .outv
    | .onReference => if s.acq.seq % 3 = 0 then .psp else if s.acq.seq % 3 = 1 then .outi else .outv
    | .off => if s.acq.seq % 8 = 7 then .outi else .psp
  role := s.timer.window
  pair := s.timer.pair.map fun p => p.serial
  offset :=
    match s.timer.window, s.acq.current with
    | .off, some w => ((s.acq.slotStart + 5) % 4294967296 + 4294967296 - w.offStart) % 4294967296
    | _, _ => 0
  switchClosed := switchClosed
  seq := s.acq.seq

/-- The drive after a setpoint code arrived (R43, R50). -/
def codeTaken (d : Drive) (code : Nat) : Drive :=
  match d.state with
  | .on =>
    { d with
      setpointCode := code
      demand := code - d.backoff
      openRun := if 205 ≤ code - d.backoff then d.openRun else 0 }
  | .ramping => { d with setpointCode := code, rampTarget := code, demand := min d.demand (code - d.backoff) }
  | .halted | .tripped | .lockout => { d with setpointCode := code }

/-- The port after a record joined a queue that then holds `held` records (R165). -/
def recordJoined (s : State) (p : Port) (held : Nat) : Port :=
  if s.params.value 45 ≤ held then latched p .records else p

/-- The record queue after a record joined it (R161, R162). -/
def queueJoined (q : Records) (r : CycleRecord) : Records :=
  if q.queue.length < 64 then { q with queue := q.queue ++ [r] }
  else { queue := q.queue.drop 1 ++ [r], discards := min 255 (q.discards + 1) }

/-- The receiver back in HUNT, as a frame's completion leaves it (R75), with nothing taken (log 17). -/
def hunting (l : Link) : Link := { l with rx := .hunt, bits := [], assembly := none }

/-- The receiver has taken a whole frame with this body, CRC and receive stamp (R75). -/
abbrev FrameTaken (s : State) (body : List Byte) (crc : Word16) (stamp : Nat) : Prop :=
  s.link.rx = .check ∧ s.link.assembly =
    some
      { stamp := stamp, length := some body.length, body := body
        crc := [BitVec.ofNat 8 (crc.toNat / 256), BitVec.ofNat 8 crc.toNat] }

/-- A frame is complete with this body, CRC and receive stamp, and its CRC matches (R75, R77). -/
abbrev FrameArrives (s : State) (body : List Byte) (crc : Word16) (stamp : Nat) : Prop :=
  FrameTaken s body crc stamp ∧ crc = crc16 (BitVec.ofNat 8 body.length :: body)

/-- The entry that an admitted frame writes (R84, R85). -/
def writtenEntry (s : State) (f : Status) (stamp heard : Nat) : Peer where
  station := f.station
  chainage := f.chainage
  planMatch := decide (f.planTag = s.port.planTag)
  timing := f.timing
  root := f.root
  offset := ((f.stamp : Int) + (s.params.value 4).toNat - stamp + 432000000) % 864000000 - 432000000
  lastHeard := s.timer.tally
  drive := f.drive
  current := f.current
  condition := f.condition
  holdReason := f.holdReason
  amount := f.amount
  depth := f.depth
  plan := f.plan
  survey := f.survey
  heardCount := heard

/-- A table in table order whose entries are `p` and those of `rest` (R81). -/
abbrev TableOf (table : List Peer) (p : Peer) (rest : Peer → Prop) : Prop :=
  table.Pairwise TableOrder ∧ ∀ q, q ∈ table ↔ (q = p ∨ rest q)

/-- A command of the port as its row of the opcode table. -/
def rowOf : PortCommand → Instr
  | .loadParameter n v => .loadParameter n v
  | .readParameter n => .readParameter n
  | .setLineTime t => .setLineTime t
  | .start => .start
  | .partStatus => .partStatus
  | .readAttention => .readAttention
  | .readRecords n => .readRecords n
  | .peerList => .peerList
  | .surveyList => .surveyList
  | .captureOpen => .captureOpen
  | .captureFetch i n => .captureFetch i n
  | .captureClose => .captureClose
  | .surveyStart a => .surveyStart a
  | .surveyHalt => .surveyHalt
  | .outputOff => .outputOff
  | .outputOn => .outputOn
  | .clearFault => .clearFault
  | .restart => .restart

/-- The bytes of the port, one PORT_BYTE after another; none if a byte gave no next state. -/
def receiveBytes (s : State) : List Byte → Option State
  | [] => some s
  | b :: bs =>
    match exec (.portByte b) s with
    | .next t => receiveBytes t bs
    | .fault _ => none
    | .refused _ => none

/-! ### Survey notices -/

/-- A notice table that has room for one more entry: a full one loses its first entry that is not adopted (R141). -/
def roomFor (table : List SurveyEntry) : List SurveyEntry :=
  if table.length < 4 then table else table.eraseP fun e => decide (¬ (e.state = .pending ∨ e.state = .active))

/-- The entry that a START notice of a new identity makes (R146). -/
def noticeEntry (s : State) (n : Notice) (p : SurveyParams) (state : EntryState) (relay : NoticeAction)
    (copies hops : Nat) : SurveyEntry where
  id := n.id
  spanFrom := n.spanFrom
  spanTo := n.spanTo
  params := some p
  halt := none
  endTime := some ((p.start + p.cycles * p.cycle) % 864000000)
  state := state
  relay := relay
  copiesLeft := copies
  hops := hops
  heard := 1
  receipt := s.timer.tally

/-- Line time is within the survey of a START notice (R140). -/
abbrev NoticeWithin (s : State) (p : SurveyParams) : Prop := shifted s.timer.lineTime (-p.start) < p.cycles * p.cycle

/-- Line time waits for the survey of a START notice (R140). -/
abbrev NoticeWaits (s : State) (p : SurveyParams) : Prop :=
  1 ≤ shifted p.start (-s.timer.lineTime) ∧ shifted p.start (-s.timer.lineTime) ≤ 432000000

/-- Where the adopted survey stands at line time t after a move of line time (R140, R152): from a halt line time on HALTED when it
shortened the survey and else ENDED (the latter the model's reading, log 15), ACTIVE in its interval, ENDED when it was ACTIVE and was left
by its end, PENDING while t waits for S, else ENDED. -/
def surveyPlaced (e : SurveyEntry) (p : SurveyParams) (stop t : Nat) (leftByEnd : Prop) [Decidable leftByEnd] : EntryState :=
  if ∃ h ∈ e.halt, atOrPast t h then
    if stop ≠ (p.start + p.cycles * p.cycle) % 864000000 then .halted else .ended
  else if atOrPast stop p.start ∧ shifted t (-p.start) < shifted stop (-p.start) then .active
  else if leftByEnd then .ended
  else if 1 ≤ shifted p.start (-t) ∧ shifted p.start (-t) ≤ 432000000 then .pending
  else .ended

/-- The notice table with the adopted entry moved to a state. -/
def surveyMoved (s : State) (e : SurveyEntry) (next : EntryState) : Survey :=
  { s.survey with table := s.survey.table.map fun x => if x.id = e.id then { x with state := next } else x }

/-- What a step of d ticks makes of the adopted survey, the executed plan and the condition: the entry moves to where it stands at the
new line time, SURVEY is latched when it becomes ACTIVE, ENDED or HALTED, the executed plan is SURVEY exactly while it is ACTIVE, and the
condition becomes HOLD when the plan becomes SURVEY. The regulator and the port are stated here as far as no pair's reduction is handed
over, and else in `StepAbandons` (R5, R17, R136, R152, R153; the moves that R152 does not name, and where a survey of half a line day or a
halt that did not shorten one ends it, are the model's, logs 15, 28 and 34). -/
abbrev StepMovesSurvey (s t : State) (d : Int) : Prop :=
  (s.survey.adoptedEntry = none → t.survey = s.survey ∧ t.timer.plan = .steady) ∧
  (s.timer.pair = none → t.port = surveyLatched s t s.port ∧
    t.reg = if s.timer.plan = .steady ∧ t.timer.plan = .survey then surveyHeld s.reg else s.reg) ∧
  ∀ e p stop next, s.survey.adoptedEntry = some e → e.params = some p → e.endTime = some stop → p.start < 864000000 →
    next = surveyPlaced e p stop (shifted s.timer.lineTime d) (e.state = .active ∧ 0 < d) →
    t.survey = surveyMoved s e next ∧ t.timer.plan = (if next = .active then .survey else .steady) ∧
      (next ≠ e.state → next ≠ .pending → t.port.attention.survey = true ∧ t.port.attn = true)

/-- What an applied correction of c ticks makes of them, with the port, which nothing else of a correction changes (R5, R14, R136, R152,
R153; logs 15, 28 and 34, as at a step). -/
abbrev CorrectionMovesSurvey (s t : State) (c : Int) : Prop :=
  (s.survey.adoptedEntry = none → t.survey = s.survey ∧ t.timer.plan = .steady ∧ t.port = s.port) ∧
  t.reg =
    { (if s.timer.plan = .steady ∧ t.timer.plan = .survey then surveyHeld s.reg else s.reg) with
      driveAtOnRef := t.reg.driveAtOnRef } ∧
  (t.timer.pair = none → t.reg.driveAtOnRef = s.reg.driveAtOnRef) ∧
  ∀ e p stop time next, s.survey.adoptedEntry = some e → e.params = some p → e.endTime = some stop → p.start < 864000000 →
    time = shifted s.timer.lineTime c →
    next = surveyPlaced e p stop time (e.state = .active ∧ shifted time (-stop) ≤ 20) →
    t.survey = surveyMoved s e next ∧ t.timer.plan = (if next = .active then .survey else .steady) ∧
      t.port = (if next ≠ e.state ∧ next ≠ .pending then latched s.port .survey else s.port)

/-- What an applied correction makes of the next epoch end: it is kept while line time, moved, is before it, else it is the first multiple
of 100,000 after line time; an epoch end that has fired in this tick counts as reached (R14; the latter the model's choice, log 32). -/
def keptEpochEnd (s : State) (time : Nat) : Option Nat :=
  let ahead :=
    match s.timer.epochWork with
    | .whole m => if s.timer.nextEpochEnd = some m then some ((m + 100000) % 864000000) else s.timer.nextEpochEnd
    | .nothing | .rest => s.timer.nextEpochEnd
  ahead.map fun e => if before time e then e else (time / 100000 + 1) * 100000 % 864000000

/-- What a step makes of the line timer's epoch ends and transmission point: the first multiple of 100,000 after the new line time is the
next epoch end, and a new point is drawn in the epoch of the new line time (R4, R17). -/
abbrev StepRedraws (t : State) : Prop :=
  t.timer.nextEpochEnd = some ((t.timer.lineTime / 100000 + 1) * 100000 % 864000000) ∧
    ∃ r, 5000 ≤ r ∧ r ≤ 84999 ∧ t.timer.txPoint = some ((t.timer.lineTime / 100000 * 100000 + r) % 864000000)

/-- A copy heard, up to 255 (R145). -/
def heardAgain (e : SurveyEntry) : SurveyEntry := { e with heard := if e.heard < 255 then e.heard + 1 else e.heard }

/-! ### Events that are due -/

/-- The receiver's events whose moment has come, with what the receiver took (R74, R75). -/
def receiverEvents (s : State) : List (Bool × Instr) :=
  let frame := s.link.assembly.getD { stamp := 0, length := none, body := [], crc := [] }
  let length := byteOf s.link.bits
  let crc := BitVec.ofNat 16 (u16 frame.crc 0)
  [(decide (s.link.syncMatched Config.syncPattern), .syncPatternMatch Config.syncPattern),
    (decide (s.link.badLength length), .frameAbandoned length),
    (decide (s.link.frameTaken frame.body crc), .frameComplete frame.body crc)]

/-- The events of the opcode table whose moment has come in this state, but for CONVERSION_SLOT, whose code comes from outside
(`State.slotDue`). A part takes all of them before its next line
tick; a sender that keeps the part's time presents LINE_TICK only when none is due (log 3). -/
def dueEvents (s : State) : List Instr :=
  let events : List (Bool × Instr) :=
    [(decide s.epochEndDue, .epochEnd),
      (decide s.surveyBeginDue, .surveyBegin),
      (decide s.surveyEndDue, .surveyEnd),
      (decide s.txPointDue, .transmissionPoint),
      (decide s.offEndDue, .offEnd),
      (decide s.onRefDue, .onReferenceStart),
      (decide s.offStartDue, .offStart),
      (decide s.markEndDue, .markPulseEnd),
      (decide s.rampTickDue, .rampTick),
      (decide s.retryDue, .retryExpiry),
      (decide s.cleanRunDue, .cleanRun),
      (decide s.tpiArmDue, .tpiArm),
      (decide s.tpiPulseDue, .tpiPulse),
      (decide s.anchorLossDue, .anchorLoss),
      (decide s.idleGapDue, .idleGap),
      (decide s.backoffDue, .backoffEnd),
      (decide s.preambleDue, .preamble),
      (decide s.stampDue, .stamp),
      (decide s.keyReleaseDue, .keyRelease),
      (decide s.portGapDue, .portGapTimeout),
      (decide s.replyDue, .replySent)]
  ((events ++ receiverEvents s).filter fun e => e.1).map fun e => e.2

end Sys2Proof.Safety
end

