-- ==== Sys2Proof/Certificates/Slice0/Obligations.lean ====
section
/-! DEFINITION. The statements for the provers, chapter by chapter of the spec. Each names the rules it rests on in its docstring;
OBLIGATIONS.json carries its title, tier and cites. Where a statement rests on a choice of the model's, its docstring names the
log entry. -/

section Statements

open Sys2Proof Sys2Proof.Machine Sys2Proof.Safety

/-! ### The queue of commands -/

/-- A step runs the command at the front of the queue on the state with the queue's rest; with an empty queue the part idles (the
model's choice, log 1). -/
def Obligations.StepRunsFrontCommand : Prop :=
  ∀ (c : Instr) (rest : List Instr) (s : State),
    (s.pending = c :: rest → step s = exec c { s with pending := rest }) ∧ (s.pending = [] → step s = .next s)

/-- Every command, whatever its operands and the state, answers a next state, and leaves the queue of waiting commands and, unless
it is LINE_TICK, the sampled input lines as they were (the free reading of "each whole and indivisible" of
95_what_each_step_holds.md; logs 1 and 2). -/
def Obligations.EveryCommandAnswersNext : Prop :=
  ∀ (c : Instr) (s : State), ∃ t, exec c s = .next t ∧ t.pending = s.pending ∧
    ((∀ radio tpi, c ≠ .lineTick radio tpi) → t.lines = s.lines)

/-! ### Reset, RESTART and the line tick (R1, R2, R173, R174) -/

/-- Power-on reset gives every block the value its rule states (R3, R4, R5, R7, R13, R19, R20, R33, R40, R62, R81, R97, R121, R139,
R161, R173 and the defaults of section 10.3); the waiting commands, the input lines and the draws are kept (log 23). -/
def Obligations.PowerOnResetValues : Prop :=
  ∀ s : State, ∃ t, exec .powerOnReset s = .next t ∧
    (t.port.part = .setup ∧ t.port.state = .idle ∧ t.port.length = none ∧ t.port.bytes = [] ∧ t.port.reply = none ∧
      t.port.errors = 0 ∧ t.port.startTime = 0 ∧ t.port.attn = false ∧ (∀ r, t.port.attention.has r = false) ∧
      t.params.toList =
        [0, 0, 400, 60, 0, 6, 30000, 0, 0, 3000, 500, 32, 2000, 40, 0, 0, 0, 0, 0, 0, 20000, 50000, 22000, 45000, 2, 64,
          20, 300, 3, 200, 0, 950, 850, 1150, 160, 5, 500, 0, 20000, 2000, 300, 100, 100, 30, 16]) ∧
    (t.timer.lineTime = 0 ∧ t.timer.elapsed = 0 ∧ t.timer.nextEpochEnd = none ∧ t.timer.tally = 0 ∧
      t.timer.txPoint = none ∧ t.timer.plan = .steady ∧ t.timer.pair = none ∧ t.timer.window = .noWindow ∧
      t.timer.markLow = false ∧ t.timer.epochWork = .nothing) ∧
    (t.align.timing = .stopped ∧ t.align.root = 0 ∧ t.align.acquireCount = 0 ∧ t.align.lowerStreak = 0 ∧
      t.align.lostStreak = 0 ∧ t.align.pendingCorr = 0 ∧ t.align.lowRun = 0 ∧ t.align.armed = false ∧
      t.align.highRun = 0 ∧ t.align.pulseStreak = 0 ∧ t.align.lastPulse = none) ∧
    (t.acq.running = false ∧ t.acq.slot = none ∧ t.acq.pipe = none ∧ t.acq.discardFirst = false ∧
      t.acq.current = none ∧ t.acq.flushing = none ∧ t.acq.pendingTake = false ∧ t.acq.latestCurrent = 0 ∧
      t.acq.bankA = { state := .free, header := none, entries := [] } ∧
      t.acq.bankB = { state := .free, header := none, entries := [] }) ∧
    (t.drive.state = .halted ∧ t.drive.demand = 0 ∧ t.drive.setpointCode = 0 ∧ t.drive.rampTarget = 0 ∧
      t.drive.backoff = 0 ∧ t.drive.rampTimer = 0 ∧ t.drive.retry = none ∧ t.drive.retryCount = 0 ∧
      t.drive.cleanRun = none ∧ t.drive.cause = .noCause ∧ t.drive.overRun = 0 ∧ t.drive.openRun = 0 ∧
      t.drive.switchClosed = false) ∧
    (t.reg.iSet = 0 ∧ t.reg.code = 0 ∧ t.reg.condition = .unknown ∧ t.reg.amount = none ∧ t.reg.holdReason = none ∧
      t.reg.holdCount = 0 ∧ t.reg.lastDepth = none ∧ t.reg.driveAtOnRef = false) ∧
    (t.link.queue = [] ∧ t.link.tx = .idle ∧ t.link.frame = none ∧ t.link.key = false ∧ t.link.window = 16 ∧
      t.link.attempts = 0 ∧ t.link.rx = .off ∧ t.link.bits = [] ∧ t.link.assembly = none ∧ t.link.crcTally = 0 ∧
      t.link.malformedTally = 0 ∧ t.link.outOfSpanTally = 0 ∧ t.link.txDropTally = 0 ∧ t.txLine = true) ∧
    t.peers = [] ∧ t.survey.table = [] ∧ t.survey.ownSeq = 0 ∧ t.records.queue = [] ∧ t.records.discards = 0 ∧
    t.pending = s.pending ∧ t.lines = s.lines ∧ t.draws = s.draws

/-- RESTART, in either part state, is answered OK with an empty body and gives every block the value of power-on reset, but for the
commissioning record and the own survey sequence number, which it keeps (R1 to R3, R174). So it leaves the part as power-on reset does,
with those two kept. The model's choices in the state written out: the waiting commands, the input lines and the draws are kept (log 23);
the MARK start tick, the slot clock, the sequence count, the KEY tick, the backoff end, the port's last-byte and reply ticks, the idle
count, the more recently sealed bank and the own plan tag, for which no rule states a reset value (log 24); the bit timing (log 17); the
number of pairs opened (log 12) and the mark that counting brought line time here (log 13). -/
def Obligations.RestartKeepsRecordAndSequence : Prop :=
  ∀ s : State, s.port.state ≠ .replying →
    (∃ t, exec .restart s = .next t ∧ t =
      { timer :=
          { lineTime := 0, elapsed := 0, nextEpochEnd := none, tally := 0, epochWork := .nothing, txPoint := none
            plan := .steady, pair := none, window := .noWindow, markLow := false, markStart := 0
            counted := false, opened := 0 }
        align :=
          { timing := .stopped, root := 0, acquireCount := 0, lowerStreak := 0, lostStreak := 0, pendingCorr := 0
            lowRun := 0, armed := false, highRun := 0, pulseStreak := 0, lastPulse := none }
        acq :=
          { running := false, slotStart := 0, seq := 0, slot := none, pipe := none, discardFirst := false
            current := none, flushing := none, pendingTake := false, latestCurrent := 0
            bankA := { state := .free, header := none, entries := [] }
            bankB := { state := .free, header := none, entries := [] }, newer := none }
        drive :=
          { state := .halted, demand := 0, setpointCode := 0, rampTarget := 0, backoff := 0, rampTimer := 0
            retry := none, retryCount := 0, cleanRun := none, cause := .noCause, overRun := 0, openRun := 0
            switchClosed := false }
        reg :=
          { iSet := 0, code := 0, condition := .unknown, amount := none, holdReason := none, holdCount := 0
            lastDepth := none, driveAtOnRef := false }
        link :=
          { queue := [], tx := .idle, frame := none, key := false, keyStart := 0, window := 16, attempts := 0
            backoffEnd := 0, idleCount := 0, rx := .off, toCentre := 0, bits := [], assembly := none, crcTally := 0
            malformedTally := 0, outOfSpanTally := 0, txDropTally := 0 }
        peers := []
        survey := { table := [], ownSeq := s.survey.ownSeq }
        records := { queue := [], discards := 0 }
        port :=
          { part := .setup, state := .replying, length := none, bytes := [], lastByte := 0
            reply := some { code := .ok, command := 0x2F, body := [] }, replyTick := 0, params := s.port.params
            planTag := 0, startTime := 0, errors := 0
            attention :=
              { records := false, driveTrip := false, driveLockout := false, timingLost := false
                duplicateNumber := false, regHold := false, survey := false }
            attn := false }
        lines := s.lines
        draws := s.draws
        pending := s.pending }) ∧
    (∀ p, exec .powerOnReset s = .next p →
      ∃ t, exec .restart s = .next t ∧
        Answers p t 0x2F .ok []
          { p with
            port := { p.port with params := s.port.params }
            survey := { p.survey with ownSeq := s.survey.ownSeq } })

/-- A line tick: the elapsed-tick count advances in both part states; in RUNNING line time advances too, the epoch end fires when line
time comes to equal the next epoch end, the channel idle count and the TPI runs follow the levels of CD and TPI, the receiver takes the
majority of the three samples of a bit whose centre falls in the tick, centres following one another at 25/12 ticks from where the last
transition put them, be it before or after the centre of the tick, and the ramp timer counts in RAMPING with SWITCH closed, up to the
1,000 at which its ramp tick is due (R1 to R3, R45, R63, R68, R110; logs 17 to 19; what a bit does is `ReceiverTakesFrames`). That the bit
timing runs on in the same way while the receiver is OFF, and that the bit of a tick is taken before the tick's other events, a KEY
release among them, are the model's choices (log 17). Nothing else changes. -/
def Obligations.LineTickCounts : Prop :=
  ∀ (radio : RadioLines) (tpi bit : Bool) (s : State) (time centre : Nat),
    time = (s.timer.lineTime + 1) % 864000000 → centre = radio.data.retimed.getD s.link.toCentre →
    bit = decide (2 ≤ radio.data.early.toNat + radio.data.centre.toNat + radio.data.late.toNat) →
    (s.port.part = .setup → exec (.lineTick radio tpi) s = .next
      { s with
        lines := { cd := radio.cd, tpi := tpi }
        timer := { s.timer with elapsed := (s.timer.elapsed + 1) % 4294967296 } }) ∧
    (s.port.part = .running → exec (.lineTick radio tpi) s = .next
      { s with
        lines := { cd := radio.cd, tpi := tpi }
        timer :=
          { s.timer with
            elapsed := (s.timer.elapsed + 1) % 4294967296
            lineTime := time
            epochWork := if s.timer.nextEpochEnd = some time then .whole time else s.timer.epochWork
            counted := true }
        link :=
          { (if centre < 12 then s.link.takeBit bit else s.link) with
            toCentre := radio.data.retimedAfter.getD (if centre < 12 then centre + 25 else centre) - 12
            idleCount :=
              if radio.cd = true ∨ s.link.key = true then 0
              else if s.link.idleCount < 200 then s.link.idleCount + 1 else s.link.idleCount }
        align :=
          { s.align with
            lowRun :=
              if tpi = true then 0
              else if s.align.lowRun < 1000 then s.align.lowRun + 1 else s.align.lowRun
            highRun :=
              if tpi = false then 0
              else if s.align.armed = true ∧ s.align.highRun < 2 then s.align.highRun + 1 else s.align.highRun }
        drive :=
          { s.drive with
            rampTimer :=
              if s.drive.state = .ramping ∧ s.drive.switchClosed = true ∧ s.drive.rampTimer < 1000 then
                s.drive.rampTimer + 1
              else s.drive.rampTimer } })

/-! ### Epoch ends (R3, R4, R14, R16, R91, R93, R101 to R109, R114) -/

/-- An epoch end in ACQUIRE or ANCHORED: the timer's and the peer table's work, and in ACQUIRE the acquire count, whose third makes
the station FREE with its own number as root (R3, R4, R91, R101, R102, R114). Nothing else changes. After a step in the same tick the
rest of the timer's work is done (the model's choice, log 32). -/
def Obligations.EpochEndInAcquireOrAnchored : Prop :=
  ∀ s : State, AtEpochEnd s → (s.align.timing = .acquire ∨ s.align.timing = .anchored) →
    ∃ r t, 5000 ≤ r ∧ r ≤ 84999 ∧ exec .epochEnd s = .next t ∧
      t =
        { epochCounted s r with
          align :=
            if s.align.timing = .anchored then s.align
            else if s.align.acquireCount < 2 then { s.align with acquireCount := s.align.acquireCount + 1 }
            else
              { s.align with
                timing := .free
                root := (s.params.value 1).toNat
                acquireCount := 0
                lowerStreak := 0
                lostStreak := 0 } }

/-- An epoch end in FREE or TRACKING without a merge or a lost lock (R102 to R105). The correction is the half of the mean of the included
offsets, each division truncated toward zero, plus the pending correction, clamped to 20 ticks, or to 10 when the executed plan that R5
gives at that epoch end is SURVEY (log 14). It is not handed when it is 0, it becomes the pending correction while a pair is in progress
(R16), and otherwise it is applied (R14): line time moves by it, the next epoch end, 100,000 on, is kept while line time is before it, the
transmission point of the epoch end stands, every stored offset and the receive stamp of a frame in assembly move with it (R76, R93), the
adopted survey and the executed plan follow line time (R5, R152), the pair of R15 opens, and the elapsed ticks, the drive and the record
queue stay as they were. The model's readings: a correction of 0 leaves the pending correction (log 30); any pair in progress defers it,
under STEADY too when a survey pair outlives its survey, against R102's words (log 33); a pair whose start had passed before is not opened
by R15 (log 8); an epoch end after a step of the same tick (log 32); the survey's moves that R152 does not name (log 34), with where an
ACTIVE survey is ended before it waits (log 28) and that a halt that did not shorten it ends it as ENDED (log 15). -/
def Obligations.EpochEndCorrection : Prop :=
  ∀ (s u : State) (near included : List Peer) (lower lost : Nat) (bound c : Int),
    AtEpochEnd s → (s.align.timing = .free ∨ s.align.timing = .tracking) → u = epochCounted s 0 →
    near = u.peers.filter (fun p => decide (SynchronizedPeer u p ∧ -200 ≤ p.offset ∧ p.offset ≤ 200)) →
    included =
      (if ∃ p ∈ near, p.timing = .anchored then near.filter (fun p => decide (p.timing = .anchored)) else near) →
    lower = (if ∃ p ∈ u.peers, MergeCandidate u p then s.align.lowerStreak + 1 else 0) → lower < 3 →
    lost = (if (∃ p ∈ u.peers, SynchronizedPeer u p) ∧ near = [] then s.align.lostStreak + 1 else 0) → lost < 6 →
    bound = (if s.survey.planAt s.timer.lineTime = .survey then 10 else 20) →
    c = max (-bound) (min bound
      (((included.map Peer.offset).sum.tdiv included.length).tdiv 2 + s.align.pendingCorr)) →
    (s.timer.pair ≠ none ∨ c = 0 →
      ∃ r t, 5000 ≤ r ∧ r ≤ 84999 ∧ exec .epochEnd s = .next t ∧
        t =
          { epochCounted s r with
            align :=
              { s.align with
                lowerStreak := lower
                lostStreak := lost
                pendingCorr := if c = 0 then s.align.pendingCorr else c } }) ∧
    (s.timer.pair = none → c ≠ 0 →
      ∃ t, exec .epochEnd s = .next t ∧ t.timer.lineTime = shifted s.timer.lineTime c ∧
        t.timer.elapsed = s.timer.elapsed ∧ t.timer.tally = (s.timer.tally + 1) % 65536 ∧
        t.timer.nextEpochEnd = u.timer.nextEpochEnd.map (fun e =>
          if before t.timer.lineTime e then e else (t.timer.lineTime / 100000 + 1) * 100000 % 864000000) ∧
        t.peers = u.peers.map (fun p => movedOffset p c) ∧
        t.align = { s.align with lowerStreak := lower, lostStreak := lost, pendingCorr := 0 } ∧
        t.link = stampMoved s.link c ∧
        t.drive = s.drive ∧ t.records = s.records ∧ t.params = s.params ∧
        (∃ r, 5000 ≤ r ∧ r ≤ 84999 ∧ t.timer.txPoint = (epochCounted s r).timer.txPoint) ∧ CorrectionMovesSurvey s t c ∧
        (NoticesLaw s → CorrectionOpens s t))

/-- The third epoch end in a row with a merge candidate (R106, R107): the candidate of the lowest root, then the smallest distance, then
the lowest station number is chosen; line time steps by its offset, its root is taken, the state becomes TRACKING, both streaks and the
pending correction become 0. A step reduces every offset, abandons a pair in progress, whose reduction is handed over at once, sets the
next epoch end to the first multiple of 100,000 after the new line time, redraws the transmission point and moves the adopted survey and
the executed plan (R4, R5, R17, R18, R30, R37, R93, R152); the receive stamp of a frame in assembly moves with line time, and nothing else
of the link controller changes (R76); the port latches what the abandoned pair's record makes due, and SURVEY (R126, R153, R165); the
sequence count returns to 0 and the slot in progress keeps its tags (R21, R30). It moves no elapsed tick, and the tally rises once; an
offset of 0 hands no step, and then nothing else changes but what every epoch end does (R108). The model's choices: the order within a
step (log 9), the tags of a slot that starts in the step's tick (log 11), the survey's moves that R152 does not name (logs 15, 28 and 34),
and an epoch end after a step of the same tick (log 32). -/
def Obligations.RootMergeStepsToChosenPeer : Prop :=
  ∀ (s u : State) (p : Peer),
    AtEpochEnd s → (s.align.timing = .free ∨ s.align.timing = .tracking) → u = epochCounted s 0 →
    2 ≤ s.align.lowerStreak → MergeCandidate u p →
    (∀ q, MergeCandidate u q → q ≠ p →
      p.root < q.root ∨ (p.root = q.root ∧ (span s p.chainage < span s q.chainage ∨
        (span s p.chainage = span s q.chainage ∧ p.station < q.station)))) →
    ∃ t, exec .epochEnd s = .next t ∧
      t.align =
        { s.align with
          timing := .tracking
          root := p.root
          acquireCount := 0
          lowerStreak := 0
          lostStreak := 0
          pendingCorr := 0 } ∧
      t.timer.elapsed = s.timer.elapsed ∧ t.timer.tally = (s.timer.tally + 1) % 65536 ∧ t.params = s.params ∧
      (p.offset = 0 → ∃ r, 5000 ≤ r ∧ r ≤ 84999 ∧ t = { epochCounted s r with align := t.align }) ∧
      (p.offset ≠ 0 → t.timer.lineTime = shifted s.timer.lineTime p.offset ∧
        t.peers = u.peers.map (fun q => movedOffset q p.offset) ∧ t.link = stampMoved s.link p.offset ∧
        t.timer.pair = none ∧ StepRedraws t ∧ StepMovesSurvey s t p.offset ∧ t.draws = u.draws + 1 ∧
        (s.timer.pair = none → t.records = s.records ∧ t.drive = s.drive ∧ t.acq = s.acq) ∧
        (s.timer.pair ≠ none → StepAbandons u t p.offset))

/-- The sixth epoch end in a row at which some peer is synchronized and none of them within 200 ticks, without a merge: the state
becomes ACQUIRE with the root kept, and TIMING_LOST is latched; line time does not move (R99, R109). -/
def Obligations.LostLockEntersAcquire : Prop :=
  ∀ s u : State,
    AtEpochEnd s → (s.align.timing = .free ∨ s.align.timing = .tracking) → u = epochCounted s 0 →
    5 ≤ s.align.lostStreak → (s.align.lowerStreak < 2 ∨ ¬ ∃ p ∈ u.peers, MergeCandidate u p) →
    (∃ p ∈ u.peers, SynchronizedPeer u p) →
    (∀ p ∈ u.peers, SynchronizedPeer u p → p.offset < -200 ∨ 200 < p.offset) →
    ∃ r t, 5000 ≤ r ∧ r ≤ 84999 ∧ exec .epochEnd s = .next t ∧
      t =
        { epochCounted s r with
          align :=
            { s.align with
              timing := .acquire
              acquireCount := 0
              lowerStreak := 0
              lostStreak := 0
              pendingCorr := 0 }
          port := latched s.port .timingLost }

/-! ### Transmission points (R4, R66, R67, R144) -/

/-- A transmission point reached: it is disarmed; the STATUS request joins a waiting STATUS or the tail, or is dropped; then one copy
of every entry with copies left is offered in table order, taken while fewer than 6 frames wait and dropped and counted after that;
copies left fall by 1 (R4, R65 to R67, R69, R144). A copy carries the entry's identity, hops to relay and span, and its START parameters
or its halt line time by the relay action (R144). Nothing else changes. -/
def Obligations.TransmissionPointQueues : Prop :=
  ∀ (s : State) (point : Nat) (copies wanted joined : List TxEntry),
    s.port.part = .running → s.timer.txPoint = some point → atOrPast s.timer.lineTime point →
    s.link.queue.length ≤ 6 → s.link.txDropTally ≤ 65535 →
    copies = (s.survey.table.filter (fun e => decide (0 < e.copiesLeft))).map (fun e => TxEntry.notice e.copy) →
    wanted = (if TxEntry.status ∈ s.link.queue then copies else TxEntry.status :: copies) →
    joined = wanted.take (6 - s.link.queue.length) →
    (∀ (e : SurveyEntry) p, e.relay = .start → e.params = some p → e.copy =
      { id := e.id, hops := e.hops, spanFrom := e.spanFrom, spanTo := e.spanTo, body := .start p }) ∧
    (∀ (e : SurveyEntry) h, e.relay = .halt → e.halt = some h → e.copy =
      { id := e.id, hops := e.hops, spanFrom := e.spanFrom, spanTo := e.spanTo, body := .halt h }) ∧
    ∃ t, exec .transmissionPoint s = .next t ∧ t.link.queue = s.link.queue ++ joined ∧
      t.link.txDropTally = min 65535 (s.link.txDropTally + (wanted.length - joined.length)) ∧
      (s.link.queue ≠ [] →
        t.link.tx = s.link.tx ∧ t.link.window = s.link.window ∧ t.link.attempts = s.link.attempts) ∧
      (s.link.queue = [] →
        t.link.window = 16 ∧ t.link.attempts = 0 ∧
          t.link.tx = if s.link.frame = none then .defer else s.link.tx) ∧
      t =
        { s with
          timer := { s.timer with txPoint := none }
          link :=
            { s.link with
              queue := t.link.queue
              txDropTally := t.link.txDropTally
              tx := t.link.tx
              window := t.link.window
              attempts := t.link.attempts }
          survey :=
            { s.survey with
              table := s.survey.table.map fun e => { e with copiesLeft := e.copiesLeft - 1 } } }

/-! ### Window pairs (R6 to R13, R26, R27, R34, R41, R119) -/

/-- An on-reference start, of a check notch under STEADY or of a survey cycle under SURVEY, reached by counting: the pair of that
notch or cycle is in progress with its three positions, the window state is ON_REFERENCE, a check pair notes the drive state, the
pair's sums and ring are empty, and it takes a bank: a FREE one, A before B, else the SEALED one, the longer sealed of two, else its
take is pending. A slot that starts at this very tick is the on-reference window's slot 0, on PSP, and else the next slot is (R6, R7,
R9, R11, R12, R21, R22, R26, R34, R119; that the slot is tagged anew is the model's reading, log 11). Nothing else changes. -/
def Obligations.OnReferenceStartOpensPair : Prop :=
  ∀ (s : State) (p : Pair) (off : Int),
    s.port.part = .running → s.timer.pair = none →
    (s.align.timing = .free ∨ s.align.timing = .tracking ∨ s.align.timing = .anchored) → s.timer.counted = true →
    s.timer.plan = s.survey.planAt s.timer.lineTime →
    (s.timer.plan = .steady ∧ s.timer.lineTime / 100000 % s.params.nat 6 = 0 ∧ p.kind = .check ∧
        p.index = s.timer.lineTime / 100000 ∧ p.survey = none ∧
        off = p.index * 100000 + s.params.nat 7 +
          ditherAt ((ditherOfCode (s.params.nat 8)).getD .noDither) p.index (s.params.nat 9) ∧
        p.onRefStart = shifted 0 (off - s.params.nat 13) ∧ p.offStart = shifted 0 off ∧
        p.offEnd = shifted 0 (off + s.params.nat 10)) ∨
      (∃ e v, s.timer.plan = .survey ∧ s.survey.adoptedEntry = some e ∧ e.params = some v ∧ p.kind = .survey ∧
        p.index = shifted s.timer.lineTime (-v.start) / v.cycle ∧ p.survey = some e.id ∧
        off = v.start + p.index * v.cycle + v.cycle - v.offLen - ditherAt v.dither p.index v.ditherSpan ∧
        p.onRefStart = shifted 0 (off - min (s.params.nat 13) (v.cycle - v.offLen - v.ditherSpan - 1000) ) ∧
        p.offStart = shifted 0 off ∧ p.offEnd = shifted 0 (off + v.offLen)) →
    p.onRefStart = s.timer.lineTime → p.serial = s.timer.opened →
    ∃ w t, exec .onReferenceStart s = .next t ∧
      t.timer = { s.timer with pair := some p, window := .onReference, opened := s.timer.opened + 1 } ∧
      t.reg = (if p.kind = .check then { s.reg with driveAtOnRef := decide (s.drive.state = .on) } else s.reg) ∧
      t.acq.current = some w ∧ w.pair = p ∧ w.onSums = { psp := ⟨0, 0⟩, outi := ⟨0, 0⟩, outv := ⟨0, 0⟩ } ∧
      w.figures = none ∧ w.ring = [] ∧
      (s.acq.bankA.state = .free →
        w.bank = some .a ∧ t.acq.bankA = p.takenBank ∧ t.acq.bankB = s.acq.bankB) ∧
      (s.acq.bankA.state ≠ .free → s.acq.bankB.state = .free →
        w.bank = some .b ∧ t.acq.bankB = p.takenBank ∧ t.acq.bankA = s.acq.bankA) ∧
      (s.acq.bankA.state = .sealed → s.acq.bankB.state = .sealed →
        (s.acq.newer = some .a → w.bank = some .b ∧ t.acq.bankB = p.takenBank ∧ t.acq.bankA = s.acq.bankA) ∧
        (s.acq.newer = some .b → w.bank = some .a ∧ t.acq.bankA = p.takenBank ∧ t.acq.bankB = s.acq.bankB)) ∧
      (s.acq.bankA.state = .sealed → (s.acq.bankB.state = .held ∨ s.acq.bankB.state = .filling) →
        w.bank = some .a ∧ t.acq.bankA = p.takenBank ∧ t.acq.bankB = s.acq.bankB) ∧
      (s.acq.bankB.state = .sealed → (s.acq.bankA.state = .held ∨ s.acq.bankA.state = .filling) →
        w.bank = some .b ∧ t.acq.bankB = p.takenBank ∧ t.acq.bankA = s.acq.bankA) ∧
      (t.acq.pendingTake = true ↔ w.bank = none) ∧
      ((s.acq.bankA.state = .held ∨ s.acq.bankA.state = .filling) →
        (s.acq.bankB.state = .held ∨ s.acq.bankB.state = .filling) →
        w.bank = none ∧ t.acq.bankA = s.acq.bankA ∧ t.acq.bankB = s.acq.bankB) ∧
      ((s.acq.slot = none ∨ s.acq.slotStart ≠ s.timer.elapsed) → t.acq.seq = 0 ∧ t.acq.slot = s.acq.slot) ∧
      (s.acq.slot ≠ none → s.acq.slotStart = s.timer.elapsed →
        t.acq.seq = 1 ∧ t.acq.slot =
          some
            { channel := .psp, role := .onReference, pair := some p.serial, offset := 0
              switchClosed := s.drive.switchClosed, seq := 0 }) ∧
      t =
        { s with
          timer := t.timer
          reg := t.reg
          acq :=
            { s.acq with
              current := t.acq.current
              bankA := t.acq.bankA
              bankB := t.acq.bankB
              pendingTake := t.acq.pendingTake
              slot := t.acq.slot
              seq := t.acq.seq } }

/-- The off start: the window state is OFF, SWITCH opens with DEMAND and the drive state unchanged, MARK goes low at a survey pair,
the off sums are empty, the slots that started in the on-reference window are counted for the ring's slot numbers, and a slot that
starts at this very tick is the off window's slot 0, on PSP, and not one of them (R7, R13, R21, R27, R35, R41; that the slot is tagged
anew is the model's reading, log 11). Nothing else changes. -/
def Obligations.OffStartOpensSwitch : Prop :=
  ∀ (s : State) (p : Pair),
    s.timer.window = .onReference → s.timer.pair = some p → atOrPast s.timer.lineTime p.offStart →
    ∃ t, exec .offStart s = .next t ∧
      t.timer =
        { s.timer with
          window := .off
          markLow := if p.kind = .survey then true else s.timer.markLow
          markStart := if p.kind = .survey then s.timer.elapsed else s.timer.markStart } ∧
      t.drive = { s.drive with switchClosed := false } ∧
      (∀ w, s.acq.current = some w → t.acq.current =
        some { w with
          offSet := { total := 0, count := 0, low := 0, high := 0 }
          offStart := s.timer.elapsed
          onSlots :=
            if s.acq.slotStart = s.timer.elapsed then (s.acq.slot.map fun x => x.seq).getD s.acq.seq else s.acq.seq }) ∧
      (s.acq.current = none → t.acq.current = none) ∧
      ((s.acq.slot = none ∨ s.acq.slotStart ≠ s.timer.elapsed) → t.acq.seq = 0 ∧ t.acq.slot = s.acq.slot) ∧
      (s.acq.slot ≠ none → s.acq.slotStart = s.timer.elapsed →
        t.acq.seq = 1 ∧ t.acq.slot =
          some
            { channel := .psp, role := .off, pair := some p.serial, offset := 0, switchClosed := false, seq := 0 }) ∧
      t =
        { s with
          timer := t.timer
          drive := t.drive
          acq := { s.acq with current := t.acq.current, seq := t.acq.seq, slot := t.acq.slot } }

/-- The off end: no pair is in progress, the window state is NONE, SWITCH closes exactly in RAMPING and ON with DEMAND unchanged, and
the pair awaits its flush slot (R7, R21, R25, R41). The model's choices: the slot of this very tick is tagged anew (log 11), and an
earlier pair that still awaits its flush slot is replaced (log 3). Nothing else changes. -/
def Obligations.OffEndEndsPair : Prop :=
  ∀ (s : State) (p : Pair),
    s.timer.window = .off → s.timer.pair = some p → atOrPast s.timer.lineTime p.offEnd →
    ∃ t, exec .offEnd s = .next t ∧
      t =
        { s with
          timer :=
            { s.timer with pair := none, window := .noWindow }
          drive := { s.drive with switchClosed := decide (s.drive.state = .ramping ∨ s.drive.state = .on) }
          acq := { s.acq with current := none, flushing := s.acq.current, seq := t.acq.seq, slot := t.acq.slot } } ∧
      ((s.acq.slot = none ∨ s.acq.slotStart ≠ s.timer.elapsed) → t.acq.seq = 0 ∧ t.acq.slot = s.acq.slot) ∧
      (s.acq.slot ≠ none → s.acq.slotStart = s.timer.elapsed → t.acq.seq = 1 ∧ t.acq.slot =
        some
          { channel := .outi, role := .noWindow, pair := none, offset := 0
            switchClosed := decide (s.drive.state = .ramping ∨ s.drive.state = .on), seq := 0 })

/-- Five timed events, each the change of its own block's fields and nothing else: MARK returns high 500 elapsed ticks after the off
start (R13); the TPI recognizer arms at 1,000 low ticks (R110); 3,000,000 elapsed ticks in ON clear the retry count (R53); 30,000
elapsed ticks without a pulse turn ANCHORED into TRACKING with root 0 and the pending correction kept (R115); 300 elapsed ticks after
KEY the preamble begins (R71). -/
def Obligations.TimedEventsChangeOneBlock : Prop :=
  ∀ (s : State) (a : Nat),
    (s.timer.markLow = true → 500 ≤ (s.timer.elapsed + 4294967296 - s.timer.markStart) % 4294967296 →
      exec .markPulseEnd s = .next { s with timer := { s.timer with markLow := false } }) ∧
    (s.port.part = .running → s.align.armed = false → s.align.lowRun = 1000 →
      exec .tpiArm s = .next { s with align := { s.align with armed := true } }) ∧
    (s.drive.state = .on → s.drive.cleanRun = some a →
      3000000 ≤ (s.timer.elapsed + 4294967296 - a) % 4294967296 →
      exec .cleanRun s = .next { s with drive := { s.drive with retryCount := 0, cleanRun := none } }) ∧
    (s.align.timing = .anchored → s.align.lastPulse = some a →
      30000 ≤ (s.timer.elapsed + 4294967296 - a) % 4294967296 →
      exec .anchorLoss s = .next
        { s with align := { s.align with timing := .tracking, root := 0, lowerStreak := 0, lostStreak := 0 } }) ∧
    (s.link.tx = .keyed → 300 ≤ (s.timer.elapsed + 4294967296 - s.link.keyStart) % 4294967296 →
      exec .preamble s = .next { s with link := { s.link with tx := .sending } })

/-- The dither of R8, whole: its three formulas, its range, its repeats, and the index, type and span that check notches and survey
cycles take. -/
def Obligations.DitherRule : Prop :=
  (∀ n span, ditherAt .noDither n span = 0) ∧
  (∀ n span, ditherAt .pseudo n span = (n * 40503 % 65536) * (span + 1) / 65536) ∧
  (∀ n span, n % 16 ≤ 8 → ditherAt .triangle n span = n % 16 * span / 8) ∧
  (∀ n span, 8 < n % 16 → ditherAt .triangle n span = (16 - n % 16) * span / 8) ∧
  (∀ d n span, ditherAt d n span ≤ span) ∧
  (∀ n span, n % 16 = 0 → ditherAt .triangle n span = 0) ∧ (∀ n span, n % 16 = 8 → ditherAt .triangle n span = span) ∧
  (∀ n span, ditherAt .triangle (n + 16) span = ditherAt .triangle n span) ∧
  (∀ n span, ditherAt .pseudo (n + 65536) span = ditherAt .pseudo n span) ∧
  (∀ (ps : Params) n, ps.notchPlan.offStart n =
    n * 100000 + ps.nat 7 + ditherAt ((ditherOfCode (ps.nat 8)).getD .noDither) n (ps.nat 9)) ∧
  (∀ (p : SurveyParams) k, p.offStart k =
    p.start + k * p.cycle + p.cycle - p.offLen - ditherAt p.dither k p.ditherSpan)

/-- A check notch with its parameters in range lies inside its own epoch, at least 5,000 ticks after its first tick and at most
88,000 (R9); a survey cycle with its parameters in range has an on-reference window of 500 ticks or more, at least 1,000 ticks after
the cycle's first tick, and its off end at or before the cycle's end (R11). -/
def Obligations.WindowPlacement : Prop :=
  (∀ (ps : Params) (n k : Nat), n < 8640 → 10000 ≤ ps.nat 7 → ps.nat 7 ≤ 60000 → ps.nat 9 ≤ 20000 →
    ps.nat 10 ≤ 8000 → ps.nat 13 ≤ 5000 →
    let p := ps.notchPlan.pair n k
    n * 100000 + 5000 ≤ p.onRefStart ∧ p.onRefStart + ps.nat 13 = p.offStart ∧
      p.offStart + ps.nat 10 = p.offEnd ∧ p.offEnd ≤ n * 100000 + 88000) ∧
  (∀ (v : SurveyParams) (id : SurveyId) (wOn k j : Nat), v.InRange → v.start < 864000000 → k < v.cycles → 500 ≤ wOn →
    let p := v.pair id wOn k j
    let first := v.start + k * v.cycle
    shifted p.offStart (-p.onRefStart) = min wOn (v.cycle - v.offLen - v.ditherSpan - 1000) ∧
      500 ≤ shifted p.offStart (-p.onRefStart) ∧ 1000 ≤ shifted p.onRefStart (-first) ∧
      shifted p.onRefStart (-first) < v.cycle ∧ shifted p.offEnd (-p.offStart) = v.offLen ∧
      shifted (first + v.cycle) (-p.offEnd) = ditherAt v.dither k v.ditherSpan)

/-! ### Conversion slots (R20 to R32, R35 to R37) -/

/-- The end of a slot outside windows: the first delivery after START is discarded and clears the mark; each later one is a sample,
which goes to the drive controller when it is OUTI or OUTV converted with SWITCH closed and to nothing otherwise; the ended slot's
conversion enters the pipeline stage, and the next slot starts 5 elapsed ticks later, on OUTI when its number is even and OUTV when
it is odd (R20 to R22, R25, R31). In whatever window state a slot ends, a sample of window state NONE, and one whose pair is no longer
there because a step abandoned it, is credited to nothing; an OUTI or OUTV sample converted with SWITCH closed goes to the drive
controller, and a switch-verify sample above the switch-leak limit reports a stuck switch, all the same (R25, R30 to R32). -/
def Obligations.ConversionSlotOutsideWindows : Prop :=
  (∀ (s u : State) (ended : Tag) (code : Int),
    s.acq.running = true → 5 ≤ (s.timer.elapsed + 4294967296 - s.acq.slotStart) % 4294967296 →
    s.acq.slot = some ended → ended.role = .noWindow → s.timer.window = .noWindow → s.timer.pair = none →
    s.acq.flushing = none →
    (s.acq.discardFirst = true ∧ u = { s with acq := { s.acq with discardFirst := false } } ∨
      s.acq.discardFirst = false ∧ ∃ c, s.acq.pipe = some c ∧ c.tag.role = .noWindow ∧
        u =
          if c.tag.channel ≠ .psp ∧ c.tag.switchClosed = true then
            s.protectionSample c.tag.channel (s.params.calibrate c.tag.channel c.code)
          else s) →
    exec (.conversionSlot code) s = .next
      { u with
        acq :=
          { u.acq with
            pipe := some { tag := ended, code := code }
            slotStart := (s.acq.slotStart + 5) % 4294967296
            seq := s.acq.seq + 1
            slot :=
              some
                { channel := if s.acq.seq % 2 = 0 then .outi else .outv
                  role := .noWindow
                  pair := none
                  offset := 0
                  switchClosed := u.drive.switchClosed
                  seq := s.acq.seq } } }) ∧
  (∀ (s x u : State) (ended : Tag) (c : Conversion) (code v : Int),
    s.acq.running = true → 5 ≤ (s.timer.elapsed + 4294967296 - s.acq.slotStart) % 4294967296 →
    s.acq.slot = some ended → s.acq.flushing = none → s.acq.discardFirst = false → s.acq.pipe = some c →
    (c.tag.role = .noWindow ∨ ∀ w, s.acq.current = some w → c.tag.pair ≠ some w.pair.serial) →
    (∀ w, s.acq.current = some w → ¬ (ended.role = .off ∧ ended.seq = 0 ∧ ended.pair = some w.pair.serial)) →
    v = s.params.calibrate c.tag.channel c.code →
    x = (if c.tag.channel ≠ .psp ∧ c.tag.switchClosed = true then s.protectionSample c.tag.channel v else s) →
    u =
      (if c.tag.channel = .outi ∧ c.tag.role = .off ∧ c.tag.seq % 8 = 7 ∧ 20 ≤ c.tag.offset ∧ s.params.value 30 < v then
          x.stuckSwitch
        else x) →
    exec (.conversionSlot code) s = .next
      { u with
        acq :=
          { s.acq with
            pipe := some { tag := ended, code := code }
            slotStart := (s.acq.slotStart + 5) % 4294967296
            seq := s.acq.seq + 1
            slot := some (nextSlot s u.drive.switchClosed) } })

/-- A sample of the on-reference window joins the sum and count of its channel, a PSP sample also the ring of the newest 64, and an
OUTI or OUTV sample converted with SWITCH closed goes to the drive controller too (R25, R26, R31, R35). The ended slot's conversion enters
the pipeline stage, and the next slot starts 5 elapsed ticks later on the channel of its number, PSP, OUTI and OUTV in turn in the
on-reference window, with its tags (R20 to R22). Nothing else changes. -/
def Obligations.OnReferenceSamplesAreSummed : Prop :=
  ∀ (s : State) (w : PairWork) (ended : Tag) (c : Conversion) (code v : Int),
    s.acq.running = true → 5 ≤ (s.timer.elapsed + 4294967296 - s.acq.slotStart) % 4294967296 →
    s.acq.slot = some ended → ended.role = .onReference → s.acq.flushing = none → s.acq.discardFirst = false →
    s.acq.pipe = some c → c.tag.role = .onReference → s.acq.current = some w → c.tag.pair = some w.pair.serial →
    w.ring.length ≤ 64 → v = s.params.calibrate c.tag.channel c.code →
    ∃ t w', exec (.conversionSlot code) s = .next t ∧ t.acq.current = some w' ∧
      (c.tag.channel = .psp →
        w'.onSums = { w.onSums with psp := ⟨w.onSums.psp.total + v, w.onSums.psp.count + 1⟩ } ∧
        w'.ring = (if w.ring.length = 64 then w.ring.drop 1 else w.ring) ++ [⟨v, c.tag.seq⟩] ∧
        t.drive = s.drive ∧ t.port = s.port) ∧
      (c.tag.channel = .outi →
        w'.onSums = { w.onSums with outi := ⟨w.onSums.outi.total + v, w.onSums.outi.count + 1⟩ } ∧ w'.ring = w.ring) ∧
      (c.tag.channel = .outv →
        w'.onSums = { w.onSums with outv := ⟨w.onSums.outv.total + v, w.onSums.outv.count + 1⟩ } ∧ w'.ring = w.ring) ∧
      (c.tag.channel ≠ .psp → c.tag.switchClosed = true →
        t.drive = (s.protectionSample c.tag.channel v).drive ∧ t.port = (s.protectionSample c.tag.channel v).port) ∧
      (c.tag.channel ≠ .psp → c.tag.switchClosed = false → t.drive = s.drive ∧ t.port = s.port) ∧
      w' = { w with onSums := w'.onSums, ring := w'.ring } ∧
      t.acq.slot = some (nextSlot s t.drive.switchClosed) ∧
      t =
        { s with
          acq :=
            { s.acq with
              current := some w'
              pipe := some { tag := ended, code := code }
              slotStart := (s.acq.slotStart + 5) % 4294967296
              seq := s.acq.seq + 1
              slot := t.acq.slot }
          drive := t.drive
          port := t.port }

/-- The end of the off window's slot 0 completes the on-reference reduction, after the delivery of the last on-reference sample: the
three rounded means are formed, I_on becomes the latest on-reference current, and the ring of the newest 64 PSP samples is written to
the pair's bank, oldest first, with slot numbers counted back from the off start, whichever of the three channels the last slot
converted (R21, R22, R25, R26, R31, R35). -/
def Obligations.OnReferenceReductionCompletes : Prop :=
  ∀ (s : State) (w : PairWork) (id : BankId) (ended : Tag) (c : Conversion) (ring : List Entry) (psp outi outv : Sum)
    (code e i v x : Int),
    s.acq.running = true → 5 ≤ (s.timer.elapsed + 4294967296 - s.acq.slotStart) % 4294967296 →
    s.acq.slot = some ended → ended.role = .off → ended.seq = 0 → ended.pair = some w.pair.serial →
    s.acq.flushing = none → s.acq.discardFirst = false → s.acq.pipe = some c → c.tag.role = .onReference →
    c.tag.pair = some w.pair.serial → s.acq.current = some w → w.bank = some id →
    (s.acq.bank id).entries = [] → w.ring.length ≤ 64 → x = s.params.calibrate c.tag.channel c.code →
    psp = (if c.tag.channel = .psp then ⟨w.onSums.psp.total + x, w.onSums.psp.count + 1⟩ else w.onSums.psp) →
    outi = (if c.tag.channel = .outi then ⟨w.onSums.outi.total + x, w.onSums.outi.count + 1⟩ else w.onSums.outi) →
    outv = (if c.tag.channel = .outv then ⟨w.onSums.outv.total + x, w.onSums.outv.count + 1⟩ else w.onSums.outv) →
    ring =
      (if c.tag.channel = .psp then (if w.ring.length = 64 then w.ring.drop 1 else w.ring) ++ [⟨x, c.tag.seq⟩]
        else w.ring) →
    0 < psp.count → 0 < outi.count → 0 < outv.count →
    Rounded psp.total psp.count e → Rounded outi.total outi.count i → Rounded outv.total outv.count v →
    ∃ t w', exec (.conversionSlot code) s = .next t ∧ t.acq.current = some w' ∧
      w'.figures = some { eOn := e, iOn := i, vOn := v } ∧ t.acq.latestCurrent = i.toNat ∧
      (t.acq.bank id).entries = ring.map (fun y => { value := y.value, slot := y.slot - w.onSlots }) ∧
      t.acq.bank id.other = s.acq.bank id.other ∧
      (c.tag.channel ≠ .psp ∧ c.tag.switchClosed = true →
        t.drive = (s.protectionSample c.tag.channel x).drive ∧ t.port = (s.protectionSample c.tag.channel x).port) ∧
      (c.tag.channel = .psp ∨ c.tag.switchClosed = false → t.drive = s.drive ∧ t.port = s.port) ∧
      t.acq.slot = some (nextSlot s t.drive.switchClosed) ∧ t.reg = s.reg ∧ t.records = s.records ∧
      t.link = s.link ∧ t.peers = s.peers ∧ t.survey = s.survey ∧ t.timer = s.timer ∧ t.align = s.align

/-- A PSP sample of the off window, delivered after the ring: it is the bank's next entry, or marks a full bank TRUNCATED (R36); it
joins the off-sample set when its offset is at or beyond the settle time and the set has fewer than N_off members (R27). A
switch-verify sample enters neither, and reports a stuck switch when its offset is 20 ticks or more and its value exceeds the
switch-leak limit (R32). The next slot starts on the channel of its number, OUTI in every eighth slot of the off window and PSP in the
others, with its tags (R21, R22). -/
def Obligations.OffWindowSamples : Prop :=
  ∀ (s : State) (w : PairWork) (id : BankId) (b : Bank) (ended : Tag) (c : Conversion) (code v : Int),
    s.acq.running = true → 5 ≤ (s.timer.elapsed + 4294967296 - s.acq.slotStart) % 4294967296 →
    s.acq.slot = some ended → ended.role = .off → 0 < ended.seq → s.acq.flushing = none → s.acq.discardFirst = false →
    s.acq.pipe = some c → c.tag.role = .off → c.tag.switchClosed = false → c.tag.pair = some w.pair.serial →
    s.acq.current = some w → w.bank = some id → b = s.acq.bank id → v = s.params.calibrate c.tag.channel c.code →
    ∃ t, exec (.conversionSlot code) s = .next t ∧ t.reg = s.reg ∧ t.records = s.records ∧ t.timer = s.timer ∧
      t.acq.bank id.other = s.acq.bank id.other ∧ t.acq.latestCurrent = s.acq.latestCurrent ∧
      t.acq.slot = some (nextSlot s t.drive.switchClosed) ∧ t.acq.seq = s.acq.seq + 1 ∧
      (c.tag.channel = .psp →
        t.drive = s.drive ∧ t.port = s.port ∧
        (b.entries.length < 512 → t.acq.bank id = { b with entries := b.entries ++ [⟨v, c.tag.seq⟩] }) ∧
        (512 ≤ b.entries.length → t.acq.bank id =
          { b with header := b.header.map fun h => { h with truncated := true } }) ∧
        (s.params.nat 11 ≤ c.tag.offset → w.offSet.count < s.params.nat 12 → ∃ w', t.acq.current = some w' ∧
          w'.offSet.total = w.offSet.total + v ∧ w'.offSet.count = w.offSet.count + 1 ∧
          (w.offSet.count = 0 → w'.offSet.low = v ∧ w'.offSet.high = v) ∧
          (w.offSet.count ≠ 0 → w'.offSet.low = min w.offSet.low v ∧ w'.offSet.high = max w.offSet.high v)) ∧
        (c.tag.offset < s.params.nat 11 ∨ s.params.nat 12 ≤ w.offSet.count → t.acq.current = some w)) ∧
      (c.tag.channel = .outi → t.acq.bank id = b ∧ t.acq.current = some w ∧
        (c.tag.seq % 8 = 7 → 20 ≤ c.tag.offset → s.params.value 30 < v →
          t.drive = s.stuckSwitch.drive ∧ t.port = s.stuckSwitch.port) ∧
        (c.tag.seq % 8 ≠ 7 ∨ c.tag.offset < 20 ∨ v ≤ s.params.value 30 → t.drive = s.drive ∧ t.port = s.port))

/-- The end of the flush slot is the reduction-complete event: the pair's bank is sealed with its SHORT_CAPTURE flag and is the more
recently sealed, and the reduction, with its on-reference figures, the rounded mean, spread and count of the set and its flags, goes
to the regulator for a check pair and to the survey unit for a survey pair, which makes a SURVEY record of it (R25, R27 to R29, R33, R37,
R118, R155). A pair that waits for a bank takes the one just sealed (R34). The sample of the slot before is delivered before the
completion (the model's reading, log 10), but for one that reports a stuck switch: the report and the completion then come in either
order, which a free value decides (R123, log 31). -/
def Obligations.FlushSlotHandsOverReduction : Prop :=
  ∀ (s d : State) (w : PairWork) (id : BankId) (ended : Tag) (c : Conversion) (h : Header) (code : Int) (r : Reduction)
    (stuck : Prop),
    s.acq.running = true → 5 ≤ (s.timer.elapsed + 4294967296 - s.acq.slotStart) % 4294967296 →
    s.acq.slot = some ended → ended.role ≠ .off → s.acq.discardFirst = false → s.acq.pipe = some c → d = s.deliver c →
    (stuck ↔ c.tag.channel = .outi ∧ c.tag.role = .off ∧ c.tag.seq % 8 = 7 ∧ 20 ≤ c.tag.offset ∧
      s.params.value 30 < s.params.calibrate .outi c.code) →
    d.acq.flushing = some w → w.bank = some id → (d.acq.bank id).header = some h →
    (d.acq.pendingTake = false ∨
      (d.acq.current ≠ none ∧ ((d.acq.bank id.other).state = .held ∨ (d.acq.bank id.other).state = .filling))) →
    r.kind = w.pair.kind → r.index = w.pair.index → r.survey = w.pair.survey →
    r.eOn = w.figures.map (fun f => f.eOn) → r.iOn = (w.figures.map (fun f => f.iOn)).getD 0 →
    r.vOn = (w.figures.map (fun f => f.vOn)).getD 0 →
    (w.offSet.count = 0 → r.eOff = none ∧ r.spread = 0) →
    (0 < w.offSet.count →
      r.spread = w.offSet.high - w.offSet.low ∧ ∃ e, r.eOff = some e ∧ Rounded w.offSet.total w.offSet.count e) →
    r.setCount = w.offSet.count → r.short = decide (w.offSet.count < s.params.nat 12) →
    r.truncated = h.truncated → r.abandoned = false →
    ∃ (t u found : State) (pointFirst : Bool), exec (.conversionSlot code) s = .next t ∧
      (¬ stuck → pointFirst = false ∧ t.draws = s.draws) ∧ (stuck → t.draws = s.draws + 1) ∧
      found = (if pointFirst = true then s else d) ∧
      u = (if w.pair.kind = .check then found.regulate r else found.surveyReduction r) ∧
      (w.pair.kind = .survey → RecordsLaw s → u =
        { found with
          records := queueJoined s.records (surveyRecord found r)
          port := recordJoined found found.port (queueJoined s.records (surveyRecord found r)).queue.length }) ∧
      t.acq.flushing = none ∧ t.acq.newer = some id ∧ t.acq.pendingTake = false ∧
      t.acq.bank id.other = d.acq.bank id.other ∧ t.acq.slot = some (nextSlot s t.drive.switchClosed) ∧
      (d.acq.pendingTake = false → t.acq.current = d.acq.current ∧ t.acq.bank id =
        { d.acq.bank id with
          state := .sealed, header := some { h with short := r.short, abandoned := false } }) ∧
      (∀ x, d.acq.pendingTake = true → d.acq.current = some x →
        t.acq.current = some { x with bank := some id } ∧ t.acq.bank id = x.pair.takenBank) ∧
      t =
        { s with
          acq := t.acq
          reg := u.reg
          drive := if pointFirst = true then (u.deliver c).drive else u.drive
          records := u.records
          port := if pointFirst = true then (u.deliver c).port else u.port
          draws := t.draws }

/-- Calibration (R23, R24): the rounded product, then the offset trim, then the clamp; a negative OUTI or OUTV code counts as 0. -/
def Obligations.CalibrationRules : Prop :=
  ∀ (ps : Params) (code q : Int),
    (Rounded (code * (10000 + ps.value 15)) 80000 q →
      ps.calibrate .psp code = max (-4000) (min 4000 (q + ps.value 16))) ∧
    (Rounded ((if code < 0 then 0 else code) * ps.nat 21 * (10000 + ps.value 17)) 327680000 q →
      ps.calibrate .outi code = max 0 (min ((ps.nat 21 * 5 / 4 : Nat) : Int) (q + ps.value 18))) ∧
    (Rounded ((if code < 0 then 0 else code) * ps.nat 22 * (10000 + ps.value 19)) 327680000 q →
      ps.calibrate .outv code = max 0 (min (ps.nat 22 : Int) (q + ps.value 20)))

/-! ### The drive controller (R41 to R60) -/

/-- An OUTV protection sample in RAMPING or ON moves the backoff: 8 codes up above V_limit, capped at 4,095, 1 code down below
V_limit x 97 / 100, and the demand follows in the same event (R47, R50). Nothing else changes. -/
def Obligations.VoltageBackoff : Prop :=
  ∀ (s : State) (v : Int) (b : Nat),
    b =
      (if s.params.value 24 < v then min 4095 (s.drive.backoff + 8)
        else if v * 100 < s.params.value 24 * 97 then s.drive.backoff - 1 else s.drive.backoff) →
    (s.drive.state = .on → s.protectionSample .outv v =
      { s with
        drive :=
          { s.drive with
            backoff := b
            demand := s.drive.setpointCode - b
            openRun := if 205 ≤ s.drive.setpointCode - b then s.drive.openRun else 0 } }) ∧
    (s.drive.state = .ramping → s.protectionSample .outv v =
      { s with
        drive := { s.drive with backoff := b, demand := min s.drive.demand (s.drive.rampTarget - b) } })

/-- An OUTI protection sample in RAMPING or ON meets the overcurrent filter, which trips at its second sample in a row above I_trip,
and then, when it did not trip, the open-circuit filter, which is armed in ON at a demand of 205 codes or more and trips at M samples
in a row with sample x 8 x 4,095 below demand x I_fs x f; a trip goes to TRIPPED below the retry limit and to LOCKOUT at it. In the
other drive states the sample is used for nothing (R48 to R51). Nothing else changes. -/
def Obligations.CurrentFilters : Prop :=
  ∀ (s : State) (v : Int) (run : Nat),
    run = (if s.params.value 23 < v then s.drive.overRun + 1 else 0) →
    (s.drive.state = .ramping ∨ s.drive.state = .on → s.protectionSample .outi v =
      if 2 ≤ run then afterTrip s .overcurrent
      else if s.drive.state = .on ∧ 205 ≤ s.drive.demand then
        if v * 8 * 4095 < s.drive.demand * s.params.nat 21 * s.params.value 25 then
          if s.params.nat 26 ≤ s.drive.openRun + 1 then afterTrip s .openCircuit
          else { s with drive := { s.drive with overRun := run, openRun := s.drive.openRun + 1 } }
        else { s with drive := { s.drive with overRun := run, openRun := 0 } }
      else { s with drive := { s.drive with overRun := run } }) ∧
    (s.drive.state = .halted ∨ s.drive.state = .tripped ∨ s.drive.state = .lockout →
      ∀ ch, s.protectionSample ch v = s)

/-- A stuck-switch report in each drive state (R54). -/
def Obligations.StuckSwitchReport : Prop :=
  ∀ s : State,
    (s.drive.state = .halted → s.stuckSwitch = s) ∧
    (s.drive.state = .ramping ∨ s.drive.state = .on ∨ s.drive.state = .tripped → s.stuckSwitch =
      { s with
        drive := { outputGone s.drive .lockout with cause := .switchStuck }
        port := latched s.port .driveLockout }) ∧
    (s.drive.state = .lockout → s.stuckSwitch = { s with drive := { s.drive with cause := .switchStuck } })

/-- A ramp tick moves the demand by the ramp step up to the ramp cap; at the cap the drive enters ON, with the demand at the setpoint
code minus the backoff and the clean-run timer started (R42, R45, R46, R50). The retry timer's expiry in TRIPPED raises the retry
count, disarms the timer, and begins RAMPING from demand 0 with the trip cause kept, SWITCH staying open while the window state is OFF
(R41, R44, R52). Nothing else changes. -/
def Obligations.RampTickAndRetryExpiry : Prop :=
  ∀ (s : State) (cap d : Nat),
    (s.drive.state = .ramping → s.drive.rampTimer = 1000 → cap = s.drive.rampTarget - s.drive.backoff →
      d = min (s.drive.demand + s.params.nat 27) cap →
      (d ≠ cap → exec .rampTick s = .next
        { s with
          drive := { s.drive with rampTimer := 0, demand := d, switchClosed := decide (s.timer.window ≠ .off) } }) ∧
      (d = cap → exec .rampTick s = .next
        { s with
          drive :=
            { s.drive with
              state := .on
              rampTimer := 0
              demand := s.drive.setpointCode - s.drive.backoff
              openRun := if 205 ≤ s.drive.setpointCode - s.drive.backoff then s.drive.openRun else 0
              cleanRun := some s.timer.elapsed
              switchClosed := decide (s.timer.window ≠ .off) } })) ∧
    (s.drive.state = .tripped → s.drive.retry = some s.timer.elapsed → exec .retryExpiry s = .next
      { s with drive := rampBegun s { s.drive with retryCount := s.drive.retryCount + 1, retry := none } })

/-- OUTPUT ON, whole (R59): in HALTED the retry count becomes 0 and the drive enters RAMPING toward the setpoint code, with OK; in
RAMPING, ON, TRIPPED and LOCKOUT it is refused with STATE and nothing changes; a halted drive keeps its setpoint code, and the codes
handed to it during the halt, so that OUTPUT ON ramps to the latest. -/
def Obligations.OutputOnOutcomes : Prop :=
  ∀ s : State, s.port.part = .running → s.port.state ≠ .replying →
    (s.drive.state = .halted → ∃ t, exec .outputOn s = .next t ∧
      Answers s t 0x23 .ok [] { s with drive := rampBegun s { s.drive with retryCount := 0 } }) ∧
    (s.drive.state ≠ .halted → ∃ t, exec .outputOn s = .next t ∧ Answers s t 0x23 .state [] s) ∧
    (∀ code, s.drive.state = .halted → s.drive.takeCode code = { s.drive with setpointCode := code }) ∧
    (∀ t, exec .outputOff s = .next t → t.drive.setpointCode = s.drive.setpointCode)

/-- OUTPUT OFF and CLEAR FAULT in each drive state (R58, R60). -/
def Obligations.OutputOffAndClearFault : Prop :=
  ∀ s : State, s.port.part = .running → s.port.state ≠ .replying →
    (s.drive.state = .ramping ∨ s.drive.state = .on ∨ s.drive.state = .tripped → ∃ t, exec .outputOff s = .next t ∧
      Answers s t 0x22 .ok [] { s with drive := outputGone s.drive .halted }) ∧
    (s.drive.state = .halted → ∃ t, exec .outputOff s = .next t ∧ Answers s t 0x22 .ok [] s) ∧
    (s.drive.state = .lockout → ∃ t, exec .outputOff s = .next t ∧ Answers s t 0x22 .state [] s) ∧
    (s.drive.state = .tripped ∨ s.drive.state = .lockout → ∃ t, exec .clearFault s = .next t ∧
      Answers s t 0x24 .ok []
        { s with drive := rampBegun s { s.drive with retry := none, retryCount := 0, cause := .noCause } }) ∧
    (s.drive.state = .halted ∨ s.drive.state = .ramping ∨ s.drive.state = .on →
      ∃ t, exec .clearFault s = .next t ∧ Answers s t 0x24 .state [] s)

/-! ### The regulator (R118 to R137) -/

/-- A held reading: the reason is the first of the five of R122 that applies; the setpoint stays, the hold count rises to at most 255, the
condition becomes HOLD with that reason and no amount, REG_HOLD is latched exactly when the count becomes the hold alarm count, the
unchanged code is handed to the drive in AUTO and none in FIXED, and one CHECK record joins the queue (R43, R120, R122, R126, R133, R137,
R161, R162, R165). That the order of R122 holds under the SURVEY plan too, with DRIVE or ABANDONED before SURVEY, is the model's reading
against the words of R136 and R185 (log 36), and so is that the plan read is the stored one in the tick of a survey's begin or end (log
14). Nothing else changes. -/
def Obligations.HeldReading : Prop :=
  ∀ (s : State) (r : Reduction) (h : HoldReason) (notOn : Bool),
    RecordsLaw s →
    notOn = decide (s.reg.driveAtOnRef = false ∨ s.drive.state ≠ .on) →
    (if notOn = true then some HoldReason.drive
      else if r.abandoned = true then some .abandoned
      else if s.timer.plan = .survey then some .survey
      else if ∃ p ∈ s.peers, (s.timer.tally + 65536 - p.lastHeard) % 65536 ≤ 2 ∧
          span s p.chainage ≤ s.params.nat 41 ∧ (¬ SynchronizedPeer s p ∨ p.plan ≠ s.timer.plan) then some .unsyncPeer
      else if s.params.value 14 < r.spread ∨ r.short = true then some .stray
      else none) = some h →
    ∃ rec t, s.regulate r = t ∧
      rec =
        { kind := r.kind, index := r.index, survey := r.survey, eOn := r.eOn, eOff := r.eOff, spread := r.spread
          iOn := r.iOn, vOn := r.vOn, setpoint := s.reg.iSet, condition := .hold, holdReason := some h
          vlimit := decide (0 < s.drive.backoff), truncated := r.truncated, abandoned := r.abandoned, short := r.short
          driveFlag := notOn, timing := s.align.timing
          syncPeers := (s.peers.filter fun p =>
            decide (SynchronizedPeer s p ∧ span s p.chainage ≤ s.params.nat 41)).length } ∧
      t =
        { s with
          reg :=
            { s.reg with
              holdCount := if s.reg.holdCount < 255 then s.reg.holdCount + 1 else s.reg.holdCount
              condition := .hold
              holdReason := some h
              amount := none }
          drive := if s.params.value 31 = 1 then s.drive else codeTaken s.drive s.reg.code
          records := queueJoined s.records rec
          port :=
            recordJoined s
              (if s.reg.holdCount < 255 ∧ s.reg.holdCount + 1 = s.params.nat 44 then latched s.port .regHold else s.port)
              (queueJoined s.records rec).queue.length }

/-- A valid reading of depth P (R127 to R134, R137): the goal is P_t plus the capped assist less the capped relief, clamped to [P_min,
P_max]; the change is 0 within the deadband and else the rounded error times g / 16, clamped to the slew limit and under VLIMIT to at most
0; the setpoint moves by it within [I_floor, I_ceil], and its code, halves rounded up, goes to the drive. In FIXED nothing moves and no
code is handed. The condition is judged from P, and one CHECK record joins the queue. That the plan read is the stored one in the tick of
a survey's begin or end is the model's choice (log 14). Nothing else changes. -/
def Obligations.ValidReading : Prop :=
  ∀ (s : State) (r : Reduction) (e depth goal raw change iNew : Int) (assist relief code : Nat) (fixed vlimit : Bool)
    (term : Peer → Nat) (cond : Condition) (amount : Option Nat),
    RecordsLaw s →
    s.reg.driveAtOnRef = true → s.drive.state = .on → r.abandoned = false → s.timer.plan = .steady →
    (∀ p ∈ s.peers, (s.timer.tally + 65536 - p.lastHeard) % 65536 ≤ 2 → span s p.chainage ≤ s.params.nat 41 →
      SynchronizedPeer s p ∧ p.plan = .steady) →
    r.spread ≤ s.params.value 14 → r.short = false → r.eOff = some e → depth = -e →
    fixed = decide (s.params.value 31 = 1) → vlimit = decide (0 < s.drive.backoff) →
    (∀ p, term p = p.amount.getD 0 * (s.params.nat 41 - span s p.chainage) / (2 * s.params.nat 41)) →
    assist = ((s.peers.filter fun p => decide ((s.timer.tally + 65536 - p.lastHeard) % 65536 ≤ 2 ∧
      span s p.chainage ≤ s.params.nat 41 ∧ p.condition = .short)).map term).sum →
    relief = ((s.peers.filter fun p => decide ((s.timer.tally + 65536 - p.lastHeard) % 65536 ≤ 2 ∧
      span s p.chainage ≤ s.params.nat 41 ∧ p.condition = .excess)).map term).sum →
    s.params.value 33 ≤ s.params.value 34 → 0 ≤ s.params.value 37 → s.params.value 38 ≤ s.params.value 39 →
    goal = max (s.params.value 33) (min (s.params.value 34)
      (s.params.value 32 + min (assist : Int) (s.params.value 42) - min (relief : Int) (s.params.value 43))) →
    (if |goal - depth| ≤ s.params.value 36 then raw = 0 else Rounded ((goal - depth) * s.params.value 35) 16 raw) →
    change =
      (if vlimit = true then min 0 (max (-s.params.value 37) (min (s.params.value 37) raw))
        else max (-s.params.value 37) (min (s.params.value 37) raw)) →
    iNew =
      (if fixed = true then s.reg.iSet
        else max (s.params.value 38) (min (s.params.value 39) (s.reg.iSet + change))) →
    0 < s.params.nat 21 → 0 ≤ iNew → iNew ≤ s.params.nat 21 →
    (code : Int) * s.params.nat 21 * 2 ≤ iNew * 4095 * 2 + s.params.nat 21 →
    iNew * 4095 * 2 + s.params.nat 21 < ((code : Int) + 1) * s.params.nat 21 * 2 →
    (cond, amount) =
      (if depth < s.params.value 33 ∧ (fixed = true ∨ iNew = s.params.value 39 ∨ vlimit = true) then
          (.short, some (s.params.value 33 - depth).toNat)
        else if s.params.value 34 < depth ∧ (fixed = true ∨ iNew = s.params.value 38) then
          (.excess, some (depth - s.params.value 34).toNat)
        else (.normal, none)) →
    ∃ rec t, s.regulate r = t ∧
      rec =
        { kind := r.kind, index := r.index, survey := r.survey, eOn := r.eOn, eOff := some e, spread := r.spread
          iOn := r.iOn, vOn := r.vOn, setpoint := iNew, condition := cond, holdReason := none, vlimit := vlimit
          truncated := r.truncated, abandoned := false, short := false, driveFlag := false, timing := s.align.timing
          syncPeers := (s.peers.filter fun p =>
            decide (SynchronizedPeer s p ∧ span s p.chainage ≤ s.params.nat 41)).length } ∧
      t =
        { s with
          reg :=
            { s.reg with
              iSet := iNew
              code := if fixed = true then s.reg.code else code
              condition := cond
              amount := amount
              holdReason := none
              holdCount := 0
              lastDepth := some depth }
          drive := if fixed = true then s.drive else codeTaken s.drive code
          records := queueJoined s.records rec
          port := recordJoined s s.port (queueJoined s.records rec).queue.length }

/-! ### Time pulses (R105, R110 to R113) -/

/-- A recognized pulse that gives no anchor entry outside ANCHORED, and in ANCHORED one that is not well spaced: the recognizer is
disarmed, the pulse becomes the last pulse, from which the loss timing runs anew, and the pulse streak is 1 without a last pulse or at a
spacing outside 9,995 to 10,005, and one more, up to 3, at a spacing inside it (R110 to R113). Nothing else changes: no correction is
handed. -/
def Obligations.TimePulseCounts : Prop :=
  ∀ (s : State) (streak : Nat),
    s.port.part = .running → s.align.armed = true → s.align.highRun = 2 → s.align.pulseStreak ≤ 3 →
    (s.align.lastPulse = none ∧ streak = 1 ∨
      ∃ a d, s.align.lastPulse = some a ∧ d = (s.timer.elapsed + 4294967296 - a) % 4294967296 ∧
        (9995 ≤ d ∧ d ≤ 10005 ∧ streak = min 3 (s.align.pulseStreak + 1) ∨ (d < 9995 ∨ 10005 < d) ∧ streak = 1)) →
    (s.align.timing = .acquire ∨
      (s.align.timing = .free ∨ s.align.timing = .tracking) ∧ (streak ≠ 3 ∨ s.params.value 5 ≠ 1) ∨
      s.align.timing = .anchored ∧ ∀ a, s.align.lastPulse = some a →
        (s.timer.elapsed + 4294967296 - a) % 4294967296 < 9995 ∨ 10005 < (s.timer.elapsed + 4294967296 - a) % 4294967296) →
    exec .tpiPulse s = .next
      { s with
        align :=
          { s.align with
            armed := false
            highRun := 0
            pulseStreak := streak
            lastPulse := some s.timer.elapsed } }

/-- Pulses that move line time (R105, R112, R113). The third well-spaced pulse in FREE or TRACKING with anchor permitted: the pending
correction is discarded, a phase error above 500 ticks is stepped out, a smaller one gives a correction clamped to 20 ticks, and the
state becomes ANCHORED with root 0. A well-spaced pulse in ANCHORED: the negated phase plus the pending correction, clamped to 20, is
the correction. A correction of 0 is not handed, and in ANCHORED leaves the pending correction (the model's reading, log 30); one that
meets a pair in progress becomes the pending correction, and one that is applied keeps the transmission point and, while line time is
before it, the next epoch end (R14), and may open a pair (R15, log 8). A step sets the next epoch end and the transmission point anew and
abandons a pair in progress (R4, R17, R18, R30, log 9), whose record latches RECORDS and REG_HOLD where due (R126, R165), with the sequence
count 0 and the slot in progress as it was (R21, R30; a slot that starts in this tick is tagged anew, the model's reading, log 11); what
either leaves of an epoch end of its own tick is the model's choice (log 32). Both move the receive stamp of a frame in assembly, and
nothing else of the link controller (R76), and the adopted survey and the executed plan (R5, R152; the moves that R152 does not name, and
where a survey is judged, are the model's, logs 15, 28 and 34). -/
def Obligations.AnchorPulses : Prop :=
  ∀ (s : State) (a d : Nat) (phase c pend : Int) (taken : Align),
    s.port.part = .running → s.align.armed = true → s.align.highRun = 2 → s.timer.lineTime < 864000000 →
    s.align.lastPulse = some a → d = (s.timer.elapsed + 4294967296 - a) % 4294967296 → 9995 ≤ d → d ≤ 10005 →
    phase = (if s.timer.lineTime % 10000 < 5000 then ((s.timer.lineTime % 10000 : Nat) : Int)
      else ((s.timer.lineTime % 10000 : Nat) : Int) - 10000) →
    (s.align.timing = .anchored ∧ pend = s.align.pendingCorr ∧ c = max (-20) (min 20 (-phase + pend)) ∧
        taken = { s.align with pulseStreak := if s.align.pulseStreak < 3 then s.align.pulseStreak + 1 else s.align.pulseStreak } ∨
      (s.align.timing = .free ∨ s.align.timing = .tracking) ∧ (s.align.pulseStreak = 2 ∨ s.align.pulseStreak = 3) ∧
        s.params.value 5 = 1 ∧ pend = 0 ∧ c = (if 500 < |phase| then -phase else max (-20) (min 20 (-phase))) ∧
        taken = { s.align with timing := .anchored, root := 0, lowerStreak := 0, lostStreak := 0, pulseStreak := 3 }) →
    ∃ t, exec .tpiPulse s = .next t ∧ t.timer.elapsed = s.timer.elapsed ∧ t.timer.tally = s.timer.tally ∧
      t.params = s.params ∧
      t.align =
        { taken with
          armed := false
          highRun := 0
          lastPulse := some s.timer.elapsed
          pendingCorr :=
            if c = 0 then pend
            else if s.timer.pair ≠ none ∧ (s.align.timing = .anchored ∨ |phase| ≤ 500) then c
            else 0 } ∧
      (c = 0 → t = { s with align := t.align }) ∧
      (s.timer.pair ≠ none → (s.align.timing = .anchored ∨ |phase| ≤ 500) → t = { s with align := t.align }) ∧
      (s.timer.pair = none ∨ (s.align.timing ≠ .anchored ∧ 500 < |phase|) →
        t.timer.lineTime = shifted s.timer.lineTime c ∧
          (c ≠ 0 → t.peers = s.peers.map (fun p => movedOffset p c) ∧ t.link = stampMoved s.link c)) ∧
      (c ≠ 0 → s.timer.pair = none → (s.align.timing = .anchored ∨ |phase| ≤ 500) →
        t.timer.nextEpochEnd = keptEpochEnd s t.timer.lineTime ∧ t.timer.epochWork = s.timer.epochWork ∧
          t.timer.txPoint = s.timer.txPoint ∧ t.drive = s.drive ∧ t.records = s.records ∧ CorrectionMovesSurvey s t c ∧
          (NoticesLaw s → CorrectionOpens s t)) ∧
      (s.align.timing ≠ .anchored → 500 < |phase| →
        StepRedraws t ∧ t.timer.epochWork = (if s.timer.epochWork = .nothing then .nothing else .rest) ∧
          t.timer.pair = none ∧ t.draws = s.draws + 1 ∧ StepMovesSurvey s t c ∧
          (s.timer.pair = none → t.drive = s.drive ∧ t.records = s.records ∧ t.acq = s.acq) ∧
          (s.timer.pair ≠ none → StepAbandons s t c))

/-! ### The corridor link (R65 to R79) -/

/-- Channel access (R65, R68 to R71). In DEFER with the idle gap met, an integer below W is drawn and the head enters BACKOFF until
100 elapsed ticks a slot later. At the backoff end CD is examined: inactive, KEY is asserted, the head passes into the transmitter and
the receiver is OFF, a frame in assembly discarded; active, the busy finding doubles W up to 64 and returns the head to DEFER, or drops
the head when it is its eighth. A frame that becomes the head starts with W 16 and attempt count 0; when none does, both stay as they
are (the model's choice, log 29). That the bits taken in HUNT are emptied when KEY is asserted is the model's choice too: R71 and R74 say
nothing of them (log 17). Nothing else changes. -/
def Obligations.ChannelAccess : Prop :=
  ∀ (s : State) (head : TxEntry) (rest : List TxEntry),
    (s.link.tx = .defer → s.link.idleCount = 200 → 0 < s.link.window →
      ∃ b t, b < s.link.window ∧ exec .idleGap s = .next t ∧
        t =
          { s with
            link := { s.link with tx := .backoff, backoffEnd := (s.timer.elapsed + 100 * b) % 4294967296 }
            draws := s.draws + 1 }) ∧
    (s.link.tx = .backoff → s.link.backoffEnd = s.timer.elapsed → s.link.queue = head :: rest →
      (s.lines.cd = false → ∃ body t, exec .backoffEnd s = .next t ∧ (head = .status → body = none) ∧
        (∀ n, head = .notice n → body = some n.enc) ∧
        t =
          { s with
            link :=
              { s.link with
                queue := rest
                tx := .keyed
                frame := some { entry := head, body := body }
                key := true
                keyStart := s.timer.elapsed
                idleCount := 0
                rx := .off
                bits := []
                assembly := none
                window := if rest = [] then s.link.window else 16
                attempts := if rest = [] then s.link.attempts else 0 } }) ∧
      (s.lines.cd = true → s.link.attempts < 7 → exec .backoffEnd s = .next
        { s with
          link :=
            { s.link with
              attempts := s.link.attempts + 1, window := min 64 (2 * s.link.window), tx := .defer } }) ∧
      (s.lines.cd = true → s.link.attempts = 7 → exec .backoffEnd s = .next
        { s with
          link :=
            { s.link with
              queue := rest
              tx := if rest = [] then .idle else .defer
              window := if rest = [] then s.link.window else 16
              attempts := if rest = [] then 8 else 0
              txDropTally :=
                if s.link.txDropTally < 65535 then s.link.txDropTally + 1 else s.link.txDropTally } }))

/-- Sending (R71 to R73). At the stamp tick of a STATUS frame its body is built from the stamp, which is line time, and the fields as
their owners hold them, the executed plan being the one R5 gives at this tick (log 14). When the CRC's last bit ends, 300 ticks and 72 +
8L bits of 25/12 ticks after KEY (in whole ticks, the model's reading, log 20), KEY is released, the receiver hunts, the idle count
restarts, and the next head enters DEFER with W 16 and attempt count 0; with no next head both stay as they are (the model's choice, log
29). That HUNT then starts with no bits taken before KEY, nor the bit whose centre falls in the tick of the release, is the model's choice
too: R71 and R74 say nothing of them (log 17). Nothing else changes. -/
def Obligations.SendingStatus : Prop :=
  ∀ (s : State) (f : Status) (entry : TxEntry) (body : List Byte),
    s.link.tx = .sending →
    (s.link.frame = some { entry := .status, body := none } → s.timer.plan = s.survey.planAt s.timer.lineTime →
      366 ≤ (s.timer.elapsed + 4294967296 - s.link.keyStart) % 4294967296 →
      f =
        { station := s.params.nat 1, chainage := s.params.nat 2, planTag := s.port.planTag, stamp := s.timer.lineTime
          timing := s.align.timing, root := s.align.root, plan := s.timer.plan, drive := s.drive.state
          current := if s.drive.state = .ramping ∨ s.drive.state = .on then s.acq.latestCurrent else 0
          condition := s.reg.condition
          holdReason := if s.reg.condition = .hold then s.reg.holdReason else none
          depth := s.reg.lastDepth
          amount := if s.reg.condition = .short ∨ s.reg.condition = .excess then s.reg.amount else none
          survey :=
            if s.timer.plan = .survey then
              (s.survey.table.find? fun e => decide (e.state = .pending ∨ e.state = .active)).map fun e => e.id
            else none } →
      exec .stamp s = .next
        { s with link := { s.link with frame := some { entry := .status, body := some f.enc } } }) ∧
    (s.link.frame = some { entry := entry, body := some body } →
      300 + 25 * (72 + 8 * body.length) / 12 ≤ (s.timer.elapsed + 4294967296 - s.link.keyStart) % 4294967296 →
      exec .keyRelease s = .next
        { s with
          link :=
            { s.link with
              key := false
              frame := none
              rx := .hunt
              bits := []
              idleCount := 0
              tx := if s.link.queue = [] then .idle else .defer
              window := if s.link.queue = [] then s.link.window else 16
              attempts := if s.link.queue = [] then s.link.attempts else 0 } })

/-- Receiving (R63, R74, R75, R77, R78, R80). Where a bit that the line tick takes goes: nowhere in OFF, to the last 16 bits in HUNT, to
the length byte in LENGTH, whose eighth bit begins BODY for a value of 16 to 32, to the body bytes in BODY, the last of which begins
CHECK, and to the two CRC bytes in CHECK, each byte most significant bit first. The sync pattern in HUNT starts a frame with line time as
its receive stamp; a length byte outside 16 to 32 abandons the frame without a tally; a complete frame whose CRC-16 over length and body
differs raises the CRC tally, and one that is malformed raises the malformed tally. The receiver is then in HUNT, and nothing else
changes. That the three rows carry what the receiver took, the moments of the bits' centres, and that no bits of the frame count in the
next search, are the model's choice (log 17). -/
def Obligations.ReceiverTakesFrames : Prop :=
  ∀ (s : State) (l : Link) (f : RxFrame) (bit : Bool) (bits : List Bool) (b : Byte) (n : Nat) (body : List Byte)
    (crc : Word16) (stamp : Nat),
    bits = l.bits ++ [bit] →
    (l.rx = .off → l.takeBit bit = l) ∧
    (l.rx = .hunt → l.bits.length ≤ 16 →
      l.takeBit bit = { l with bits := if l.bits.length = 16 then bits.drop 1 else bits }) ∧
    (l.rx = .length ∨ l.rx = .body ∨ l.rx = .check → l.bits.length < 7 → l.takeBit bit = { l with bits := bits }) ∧
    (l.bits.length = 7 → bits = [7, 6, 5, 4, 3, 2, 1, 0].map (fun i => b.getLsbD i) → l.assembly = some f →
      (l.rx = .length → 16 ≤ b.toNat → b.toNat ≤ 32 → l.takeBit bit =
        { l with rx := .body, bits := [], assembly := some { f with length := some b.toNat } }) ∧
      (l.rx = .length → b.toNat < 16 ∨ 32 < b.toNat → l.takeBit bit = { l with bits := bits }) ∧
      (l.rx = .body → f.length = some n → f.body.length < n → l.takeBit bit =
        { l with
          rx := if f.body.length + 1 = n then .check else .body
          bits := []
          assembly := some { f with body := f.body ++ [b] } }) ∧
      (l.rx = .check → f.crc.length < 2 → l.takeBit bit =
        { l with bits := [], assembly := some { f with crc := f.crc ++ [b] } })) ∧
    (s.link.rx = .hunt →
      s.link.bits =
        [true, true, true, false, false, true, false, false, true, false, true, true, false, false, false, true] →
      exec (.syncPatternMatch 0xE4B1) s = .next
        { s with
          link :=
            { s.link with
              rx := .length
              bits := []
              assembly := some { stamp := s.timer.lineTime, length := none, body := [], crc := [] } } }) ∧
    (s.link.rx = .length → s.link.bits = [7, 6, 5, 4, 3, 2, 1, 0].map (fun i => b.getLsbD i) →
      b.toNat < 16 ∨ 32 < b.toNat → exec (.frameAbandoned b) s = .next { s with link := hunting s.link }) ∧
    (FrameTaken s body crc stamp →
      crc ≠ crc16 (BitVec.ofNat 8 body.length :: body) → exec (.frameComplete body crc) s = .next
        { s with
          link :=
            { hunting s.link with
              crcTally := if s.link.crcTally < 65535 then s.link.crcTally + 1 else s.link.crcTally } }) ∧
    (FrameArrives s body crc stamp → parseAir body = none → exec (.frameComplete body crc) s = .next
      { s with
        link :=
          { hunting s.link with
            malformedTally :=
              if s.link.malformedTally < 65535 then s.link.malformedTally + 1 else s.link.malformedTally } })

/-- The two CRCs and the plan tag (R186, R187): the registers are shifted bit by bit, most significant bit of each byte first, from
FFFFh with 1021h and from 00h with 1Dh, without final inversion; the plan tag is the CRC-16 over K, O_n, the dither type, D_n, taken
as 0 under NONE, and F_n, four bytes each. -/
def Obligations.CrcAndPlanTag : Prop :=
  crc16 [] = 0xFFFF ∧ crc8 [] = 0x00 ∧
  (∀ (bs : List Byte) (b : Byte), crc16 (bs ++ [b]) =
    [7, 6, 5, 4, 3, 2, 1, 0].foldl (fun (r : Word16) i =>
      if r.getLsbD 15 = b.getLsbD i then r <<< 1 else (r <<< 1) ^^^ 0x1021) (crc16 bs)) ∧
  (∀ (bs : List Byte) (b : Byte), crc8 (bs ++ [b]) =
    [7, 6, 5, 4, 3, 2, 1, 0].foldl (fun (r : Byte) i =>
      if r.getLsbD 7 = b.getLsbD i then r <<< 1 else (r <<< 1) ^^^ 0x1D) (crc8 bs)) ∧
  (∀ (p : NotchPlan) (bytes : List Byte),
    bytes =
      [p.period, p.offset, p.dither.code, if p.dither = .noDither then 0 else p.ditherSpan, p.length].flatMap
        (fun n => [BitVec.ofNat 8 (n / 16777216), BitVec.ofNat 8 (n / 65536), BitVec.ofNat 8 (n / 256),
          BitVec.ofNat 8 n]) →
    bytes.length = 20 ∧ p.tag = crc16 bytes) ∧
  (∀ s : State, State.reset.params.notchPlan.tag =
      crc16 [0, 0, 0, 6, 0, 0, 0x75, 0x30, 0, 0, 0, 0, 0, 0, 0, 0, 0, 0, 0x0B, 0xB8] ∧
    (∀ t, exec .start s = .next t → s.port.part = .setup → t.port.part = .running →
      t.port.planTag = s.params.notchPlan.tag))

/-- The air frames: every STATUS and SURVEY NOTICE frame whose fields keep the ranges of section 11.3 is built as a body of the length
its contents require, and its body read again gives the same fields; a body that is read has the length R78 and R185 require, and its
fields keep the ranges of R78 (R73, R78, R184, R185). A frame of L body bytes has 72 + 8L bits on air: sixteen times one and zero, the
sync pattern, the length byte, the body and the CRC, high byte first, each byte most significant bit first, and in SENDING the transmit
data line shows each bit for 25/12 ticks from the preamble's start, 300 ticks after KEY, on (R63, R64, R71). The model's choices: a tick in
which one bit ends and the next leaves shows the bit that stands at its start, and the line is at one outside SENDING and after the last
bit (log 35). -/
def Obligations.AirFramesRoundTrip : Prop :=
  (∀ f : Status, f.WellFormed → f.station < 65536 → f.chainage < 65536 → (∀ i ∈ f.survey, i.seq < 256) →
    f.enc.length =
      20 + f.holdReason.isSome.toNat + 2 * f.depth.isSome.toNat + 2 * f.amount.isSome.toNat +
        3 * f.survey.isSome.toNat ∧ parseAir f.enc = some (.status f)) ∧
  (∀ n : Notice, n.WellFormed → n.spanTo < 65536 → n.id.seq < 256 →
    (∀ p, n.body = .start p → n.enc.length = 25) ∧ (∀ h, n.body = .halt h → n.enc.length = 16) ∧
      parseAir n.enc = some (.notice n)) ∧
  (∀ (body : List Byte) (f : Status), parseAir body = some (.status f) → f.WellFormed ∧ body.length =
    20 + f.holdReason.isSome.toNat + 2 * f.depth.isSome.toNat + 2 * f.amount.isSome.toNat + 3 * f.survey.isSome.toNat) ∧
  (∀ (body : List Byte) (n : Notice), parseAir body = some (.notice n) → n.WellFormed ∧
    (∀ p, n.body = .start p → body.length = 25) ∧ (∀ h, n.body = .halt h → body.length = 16)) ∧
  (∀ (body : List Byte) (crc : Word16) (bits : List Bool), crc = crc16 (BitVec.ofNat 8 body.length :: body) →
    bits =
      [true, false, true, false, true, false, true, false, true, false, true, false, true, false, true, false,
        true, false, true, false, true, false, true, false, true, false, true, false, true, false, true, false] ++
      [true, true, true, false, false, true, false, false, true, false, true, true, false, false, false, true] ++
      (BitVec.ofNat 8 body.length :: body ++ [BitVec.ofNat 8 (crc.toNat / 256), BitVec.ofNat 8 crc.toNat]).flatMap
        (fun b => [7, 6, 5, 4, 3, 2, 1, 0].map fun i => b.getLsbD i) →
    bits.length = 72 + 8 * body.length ∧ airBits body = bits ∧
      ∀ (s : State) (entry : TxEntry) (ticks i : Nat),
        s.link.tx = .sending → (s.timer.elapsed + 4294967296 - s.link.keyStart) % 4294967296 = 300 + ticks →
        25 * i ≤ 12 * ticks → 12 * ticks < 25 * (i + 1) →
        (s.link.frame = some { entry := entry, body := some body } → s.txLine = bits.getD i true) ∧
        (s.link.frame = some { entry := entry, body := none } → i < 32 → s.txLine = decide (i % 2 = 0))) ∧
  (∀ s : State, s.link.tx ≠ .sending → s.txLine = true)

/-! ### The peer table (R81 to R89, R100) -/

/-- A STATUS frame that leaves the alignment unit as it is (R82 to R87, R89, R100): the own number latches DUPLICATE_NUMBER, a sender
beyond the hearing span raises the out-of-span tally, a known sender's entry is written afresh and its heard count rises up to 255, and
a new sender's entry joins a table of fewer than 8 with heard count 1; the table stays in table order. The receiver is in HUNT (R75) with
no bits taken (log 17). Nothing else changes. -/
def Obligations.StatusFrameAdmission : Prop :=
  ∀ (s : State) (body : List Byte) (crc : Word16) (stamp : Nat) (f : Status),
    FrameArrives s body crc stamp → parseAir body = some (.status f) →
    (f.station = s.params.nat 1 → exec (.frameComplete body crc) s = .next
      { s with link := hunting s.link, port := latched s.port .duplicateNumber }) ∧
    (f.station ≠ s.params.nat 1 → s.params.nat 3 < span s f.chainage → exec (.frameComplete body crc) s = .next
      { s with
        link :=
          { hunting s.link with
            outOfSpanTally :=
              if s.link.outOfSpanTally < 65535 then s.link.outOfSpanTally + 1 else s.link.outOfSpanTally } }) ∧
    (f.station ≠ s.params.nat 1 → span s f.chainage ≤ s.params.nat 3 → PeersLaw s →
      (s.align.timing ≠ .acquire ∨ f.planTag ≠ s.port.planTag ∨ f.timing = .acquire) →
      (∀ old ∈ s.peers, old.station = f.station → ∃ table,
        exec (.frameComplete body crc) s = .next { s with link := hunting s.link, peers := table } ∧
          table.length = s.peers.length ∧
          TableOf table
            (writtenEntry s f stamp (if old.heardCount < 255 then old.heardCount + 1 else old.heardCount))
            (fun q => q ∈ s.peers ∧ q.station ≠ f.station)) ∧
      ((∀ q ∈ s.peers, q.station ≠ f.station) → s.peers.length < 8 → ∃ table,
        exec (.frameComplete body crc) s = .next { s with link := hunting s.link, peers := table } ∧
          table.length = s.peers.length + 1 ∧ TableOf table (writtenEntry s f stamp 1) (fun q => q ∈ s.peers)))

/-- A new sender at a full table, whole (R88): the farthest entry, of greatest distance and then of highest station number, leaves for
the sender's entry when it is farther than the sender; else the frame is discarded, no entry changes and no tally rises. The receiver is
in HUNT (R75) with no bits taken (log 17). -/
def Obligations.FullTableReplacesFarthest : Prop :=
  ∀ (s : State) (body : List Byte) (crc : Word16) (stamp : Nat) (f : Status) (q : Peer),
    FrameArrives s body crc stamp → parseAir body = some (.status f) → PeersLaw s → s.peers.length = 8 →
    f.station ≠ s.params.nat 1 → span s f.chainage ≤ s.params.nat 3 → (∀ p ∈ s.peers, p.station ≠ f.station) →
    q ∈ s.peers →
    (∀ p ∈ s.peers, span s p.chainage < span s q.chainage ∨
      (span s p.chainage = span s q.chainage ∧ p.station ≤ q.station)) →
    (span s f.chainage < span s q.chainage →
      (∃ table, admission f stamp { s with link := hunting s.link } = .admitted table (writtenEntry s f stamp 1) ∧
        table.length = 8 ∧ TableOf table (writtenEntry s f stamp 1) (fun p => p ∈ s.peers ∧ p ≠ q)) ∧
      ((s.align.timing ≠ .acquire ∨ f.planTag ≠ s.port.planTag ∨ f.timing = .acquire) → ∃ table,
        exec (.frameComplete body crc) s = .next { s with link := hunting s.link, peers := table } ∧
          table.length = 8 ∧ TableOf table (writtenEntry s f stamp 1) (fun p => p ∈ s.peers ∧ p ≠ q))) ∧
    (span s q.chainage ≤ span s f.chainage →
      exec (.frameComplete body crc) s = .next { s with link := hunting s.link })

/-- Adoption (R89, R93, R100): in ACQUIRE an admitted entry, of a new sender, of a known one or of one that replaces the farthest entry of a
full table, whose plan matches and whose sender is FREE, TRACKING or ANCHORED makes the station TRACKING under its root, with the acquire
count, both streaks and the pending correction 0, and line time steps by its offset. A step reduces every stored offset, the written one to
0, sets the next epoch end to the first multiple of 100,000 after the new line time, redraws the transmission point, moves the adopted
survey and the executed plan (R152; logs 15, 28 and 34), and abandons a pair in progress (R4, R5, R17, R18, R30, log 9), whose record
latches RECORDS and REG_HOLD where due (R126, R165), with the sequence count 0 and the slot in progress as it was (R21, R30; a slot that
starts in this tick is tagged anew, the model's reading, log 11). An epoch end that has fired in this tick still occurs (R101; how much of
it, log 32). The receiver is in HUNT (R75) with no bits taken (log 17). The elapsed ticks, the epoch tally and the record of parameters
stay. -/
def Obligations.AdoptionSteps : Prop :=
  ∀ (s : State) (body : List Byte) (crc : Word16) (stamp : Nat) (f : Status) (p : Peer) (heard : Nat) (rest : Peer → Prop),
    FrameArrives s body crc stamp → parseAir body = some (.status f) → PeersLaw s →
    f.station ≠ s.params.nat 1 → span s f.chainage ≤ s.params.nat 3 →
    (((∀ q ∈ s.peers, q.station ≠ f.station) ∧ s.peers.length < 8 ∧ heard = 1 ∧ rest = fun q => q ∈ s.peers) ∨
      (∃ old ∈ s.peers, old.station = f.station ∧
        heard = (if old.heardCount < 255 then old.heardCount + 1 else old.heardCount) ∧
        rest = fun q => q ∈ s.peers ∧ q.station ≠ f.station) ∨
      ((∀ q ∈ s.peers, q.station ≠ f.station) ∧ s.peers.length = 8 ∧ heard = 1 ∧ ∃ far ∈ s.peers,
        (∀ q ∈ s.peers, span s q.chainage < span s far.chainage ∨
          (span s q.chainage = span s far.chainage ∧ q.station ≤ far.station)) ∧
        span s f.chainage < span s far.chainage ∧ rest = fun q => q ∈ s.peers ∧ q ≠ far)) →
    s.align.timing = .acquire → f.planTag = s.port.planTag →
    (f.timing = .free ∨ f.timing = .tracking ∨ f.timing = .anchored) → p = writtenEntry s f stamp heard →
    ∃ t table, exec (.frameComplete body crc) s = .next t ∧ TableOf table p rest ∧
      t.align =
        { s.align with
          timing := .tracking
          root := f.root
          acquireCount := 0
          lowerStreak := 0
          lostStreak := 0
          pendingCorr := 0 } ∧
      t.timer.elapsed = s.timer.elapsed ∧ t.timer.tally = s.timer.tally ∧ t.params = s.params ∧
      (p.offset = 0 → t = { s with link := hunting s.link, peers := table, align := t.align }) ∧
      (p.offset ≠ 0 → t.timer.lineTime = shifted s.timer.lineTime p.offset ∧
        t.peers = table.map (fun q => movedOffset q p.offset) ∧ (movedOffset p p.offset).offset = 0 ∧
        StepRedraws t ∧ t.timer.epochWork = (if s.timer.epochWork = .nothing then .nothing else .rest) ∧
        t.timer.pair = none ∧ t.link = hunting s.link ∧ StepMovesSurvey s t p.offset ∧ t.draws = s.draws + 1 ∧
        (s.timer.pair = none → t.records = s.records ∧ t.drive = s.drive ∧ t.acq = s.acq) ∧
        (s.timer.pair ≠ none → StepAbandons { s with link := hunting s.link, peers := table } t p.offset))

/-! ### Line surveys (R139 to R153) -/

/-- A START notice taken (R136, R140, R141, R145 to R148, R153). A known identity is heard once more. A new one outside the own
chainage, or past, is IGNORED and not relayed. Else it is adopted when no survey is or when it wins by start, origin and sequence: its
entry is PENDING or ACTIVE, every other adopted entry SUPERSEDED, SURVEY latched and the executed plan set; a loser is SUPERSEDED. Both
are relayed while hops remain. The relay action and hops of an entry that is not relayed are free values (log 16). The receiver is in HUNT
(R75) with no bits taken (log 17). Nothing else changes. -/
def Obligations.StartNoticeTaken : Prop :=
  ∀ (s : State) (body : List Byte) (crc : Word16) (stamp : Nat) (n : Notice) (p : SurveyParams) (concerns adopts : Bool),
    FrameArrives s body crc stamp → parseAir body = some (.notice n) → n.body = .start p →
    concerns = decide (n.spanFrom ≤ s.params.nat 2 ∧ s.params.nat 2 ≤ n.spanTo ∧ (NoticeWithin s p ∨ NoticeWaits s p)) →
    (adopts = true ↔ (s.survey.adoptedEntry = none ∨ ∃ x xp, s.survey.adoptedEntry = some x ∧ x.params = some xp ∧
      (before p.start xp.start ∨ ¬ before xp.start p.start ∧
        (n.id.origin < x.id.origin ∨ n.id.origin = x.id.origin ∧
          1 ≤ (n.id.seq + 256 - x.id.seq) % 256 ∧ (n.id.seq + 256 - x.id.seq) % 256 ≤ 127)))) →
    (∀ x, s.survey.adoptedEntry = some x → x.params ≠ none) →
    ((∃ e ∈ s.survey.table, e.id = n.id) → exec (.frameComplete body crc) s = .next
      { s with
        link := hunting s.link
        survey := { s.survey with table := s.survey.table.map fun e => if e.id = n.id then heardAgain e else e } }) ∧
    ((∀ e ∈ s.survey.table, e.id ≠ n.id) → ∃ t relay copies hops, exec (.frameComplete body crc) s = .next t ∧
      (concerns = true → 0 < n.hops → relay = .start ∧ copies = 3 ∧ hops = n.hops - 1 ∧ t.draws = s.draws) ∧
      (concerns = false ∨ n.hops = 0 → copies = 0 ∧ hops ≤ 15 ∧ t.draws = s.draws + 1) ∧
      (concerns = false → t =
        { s with
          link := hunting s.link
          survey :=
            { s.survey with
              table := roomFor s.survey.table ++ [noticeEntry s n p .ignored relay copies hops] }
          draws := t.draws }) ∧
      (concerns = true → adopts = false → t =
        { s with
          link := hunting s.link
          survey :=
            { s.survey with
              table := roomFor s.survey.table ++ [noticeEntry s n p .superseded relay copies hops] }
          draws := t.draws }) ∧
      (concerns = true → adopts = true → t =
        { s with
          link := hunting s.link
          survey :=
            { s.survey with
              table :=
                (roomFor s.survey.table).map (fun x =>
                  if x.state = .pending ∨ x.state = .active then { x with state := .superseded } else x) ++
                [noticeEntry s n p (if NoticeWithin s p then .active else .pending) relay copies hops] }
          timer := { s.timer with plan := if NoticeWithin s p then .survey else .steady }
          reg := if s.timer.plan = .steady ∧ NoticeWithin s p then surveyHeld s.reg else s.reg
          port := latched s.port .survey
          draws := t.draws }))

/-- A HALT notice taken (R141, R150, R151, R152). An unknown identity is recorded as HALTED; an entry with a halt line time is heard once
more; the first HALT of a known identity gives its entry the halt line time, HALTED when it is SUPERSEDED or IGNORED and ENDED when it is
ENDED. An adopted entry's end becomes the halt line time when that shortens the survey, and line time at or past the halt line time ends
it at once, with SURVEY latched and the executed plan STEADY: as HALTED when it was shortened, and as ENDED when it was not (R140; that it
is then ENDED is the model's reading, log 15). A halt shortens it when it lies before the end or, for a PENDING entry, before S (the
latter the model's reading, log 15); any other halt leaves its end as it is. It is relayed as its own hops and span allow, and START
copies left are not sent. The relay action and hops of an entry made without relaying are free values (log 16). The receiver is in HUNT
(R75) with no bits taken (log 17). Nothing else changes. -/
def Obligations.HaltNoticeTaken : Prop :=
  ∀ (s : State) (body : List Byte) (crc : Word16) (stamp h : Nat) (n : Notice) (relayed : Bool),
    FrameArrives s body crc stamp → parseAir body = some (.notice n) → n.body = .halt h → NoticesLaw s →
    relayed = decide (0 < n.hops ∧ n.spanFrom ≤ s.params.nat 2 ∧ s.params.nat 2 ≤ n.spanTo) →
    ((∀ e ∈ s.survey.table, e.id ≠ n.id) → ∃ t relay copies hops, exec (.frameComplete body crc) s = .next t ∧
      (relayed = true → relay = .halt ∧ copies = 3 ∧ hops = n.hops - 1 ∧ t.draws = s.draws) ∧
      (relayed = false → copies = 0 ∧ hops ≤ 15 ∧ t.draws = s.draws + 1) ∧
      t =
        { s with
          link := hunting s.link
          survey :=
            { s.survey with
              table := roomFor s.survey.table ++
                [{ id := n.id, spanFrom := n.spanFrom, spanTo := n.spanTo, params := none, halt := some h, endTime := none
                   state := .halted, relay := relay, copiesLeft := copies, hops := hops, heard := 1
                   receipt := s.timer.tally }] }
          draws := t.draws }) ∧
    (∀ (old e : SurveyEntry), old ∈ s.survey.table → old.id = n.id →
      (old.halt ≠ none → exec (.frameComplete body crc) s = .next
        { s with
          link := hunting s.link
          survey :=
            { s.survey with table := s.survey.table.map fun x => if x.id = n.id then heardAgain x else x } }) ∧
      (old.halt = none →
        e =
          { heardAgain old with
            halt := some h
            relay := if relayed = true then .halt else old.relay
            copiesLeft := if relayed = true then 3 else 0
            hops := if relayed = true then n.hops - 1 else old.hops } →
        (¬ (old.state = .pending ∨ old.state = .active) → exec (.frameComplete body crc) s = .next
          { s with
            link := hunting s.link
            survey :=
              { s.survey with
                table := s.survey.table.map fun x =>
                  if x.id = n.id then { e with state := if old.state = .ended then .ended else .halted } else x } }) ∧
        (∀ (p : SurveyParams) (stop : Nat) (shortens : Bool), old.state = .pending ∨ old.state = .active →
          old.params = some p → p.cycles * p.cycle ≤ 432000000 → stop = (p.start + p.cycles * p.cycle) % 864000000 →
          old.endTime = some stop → shortens = decide (before h stop ∨ (old.state = .pending ∧ before h p.start)) →
          (atOrPast s.timer.lineTime h →
            exec (.frameComplete body crc) s = .next
              { s with
                link := hunting s.link
                survey :=
                  { s.survey with
                    table := s.survey.table.map fun x =>
                      if x.id = n.id then
                        { e with
                          state := if shortens = true then .halted else .ended
                          endTime := some (if shortens = true then h else stop) }
                      else x }
                timer := { s.timer with plan := .steady }
                port := latched s.port .survey }) ∧
          (before s.timer.lineTime h →
            exec (.frameComplete body crc) s = .next
              { s with
                link := hunting s.link
                survey :=
                  { s.survey with
                    table := s.survey.table.map fun x =>
                      if x.id = n.id then { e with endTime := some (if shortens = true then h else stop) }
                      else x } }))))

/-- How the adopted survey moves (R5, R136, R140, R152, R153). Within the survey a PENDING entry becomes ACTIVE, the executed plan SURVEY
and the condition HOLD with reason SURVEY; at the end line time an ACTIVE entry becomes ENDED, with a halt that did not shorten the survey
as without one; at or past a halt line time an adopted entry becomes HALTED when that shortened the survey, and else ENDED, since line
time is past the survey (R140); both make the executed plan STEADY and leave the condition. Each latches SURVEY and changes nothing else.
A step or a correction moves the entry, at the line time it leaves, in the same event, ACTIVE back to PENDING and PENDING to ENDED among
others. The model's readings: that a halt that shortened nothing gives ENDED (log 15), an end that is also half a line day before S (log
28), and the moves that R152 does not name (log 34). That EPOCH_END, TPI_PULSE and FRAME_COMPLETE move it so is said by
EpochEndCorrection, RootMergeStepsToChosenPeer, AnchorPulses and AdoptionSteps. -/
def Obligations.SurveyBeginAndEnd : Prop :=
  ∀ (s : State) (e : SurveyEntry) (p : SurveyParams) (stop h natural : Nat),
    s.survey.adoptedEntry = some e → e.params = some p → e.endTime = some stop → p.start < 864000000 →
    natural = (p.start + p.cycles * p.cycle) % 864000000 →
    (e.state = .pending → ¬ before stop p.start →
      shifted s.timer.lineTime (-p.start) < shifted stop (-p.start) →
      (∀ x ∈ e.halt, before s.timer.lineTime x) → exec .surveyBegin s = .next
        { s with
          survey :=
            { s.survey with
              table := s.survey.table.map fun x => if x.id = e.id then { x with state := .active } else x }
          timer := { s.timer with plan := .survey }
          reg := if s.timer.plan = .steady then surveyHeld s.reg else s.reg
          port := latched s.port .survey }) ∧
    ((e.state = .active ∧ (e.halt = none ∨ stop = natural) ∧ s.timer.lineTime = stop ∨
        e.halt = some h ∧ atOrPast s.timer.lineTime h) →
      exec .surveyEnd s = .next
        { s with
          survey :=
            { s.survey with
              table := s.survey.table.map fun x =>
                if x.id = e.id then
                  { x with state := if e.halt = none ∨ stop = natural then .ended else .halted }
                else x }
          timer := { s.timer with plan := .steady }
          port := latched s.port .survey }) ∧
    (∀ (d : Int) (time : Nat) (next : EntryState), time = shifted s.timer.lineTime d →
      next = surveyPlaced e p stop time (e.state = .active ∧ 0 < d) →
      (s.applyStep d).survey =
        { s.survey with table := s.survey.table.map fun x => if x.id = e.id then { x with state := next } else x } ∧
      (s.applyStep d).timer.plan = (if next = .active then .survey else .steady) ∧
      (next ≠ e.state → next ≠ .pending →
        (s.applyStep d).port.attention.survey = true ∧ (s.applyStep d).port.attn = true)) ∧
    (∀ (c : Int) (time : Nat) (next : EntryState), time = shifted s.timer.lineTime c →
      next = surveyPlaced e p stop time (e.state = .active ∧ shifted time (-stop) ≤ 20) →
      (s.applyCorrection c).survey =
        { s.survey with table := s.survey.table.map fun x => if x.id = e.id then { x with state := next } else x } ∧
      (s.applyCorrection c).timer.plan = (if next = .active then .survey else .steady) ∧
      (s.applyCorrection c).port =
        (if next ≠ e.state ∧ next ≠ .pending then latched s.port .survey else s.port))

/-- SURVEY START and SURVEY HALT in RUNNING, with every refusal in the order of the rules (R141 to R143, R149, R153). An accepted START
makes a PENDING entry of the next own identity with S a lead of epochs ahead and three START copies to send, and latches SURVEY; an
accepted HALT gives the adopted survey a halt line time two epochs ahead, which becomes its end when it lies before the end or, for a
PENDING survey, before S (log 15), and three HALT copies. Nothing else changes. -/
def Obligations.SurveyCommands : Prop :=
  ∀ (s : State) (a : SurveyArgs) (d : Dither) (id : SurveyId) (p : SurveyParams) (h : Nat),
    s.port.part = .running → s.port.state ≠ .replying →
    id = { origin := s.params.nat 1, seq := (s.survey.ownSeq + 1) % 256 } →
    (s.align.timing = .acquire → ∃ t, exec (.surveyStart a) s = .next t ∧ Answers s t 0x20 .unsync [] s) ∧
    (s.align.timing ≠ .acquire → s.survey.adoptedEntry ≠ none →
      ∃ t, exec (.surveyStart a) s = .next t ∧ Answers s t 0x20 .busy [] s) ∧
    (s.align.timing ≠ .acquire → s.survey.adoptedEntry = none →
      (ditherOfCode a.dither = none ∨ ¬ (2 ≤ a.lead ∧ a.lead ≤ 4320) ∨ ¬ (10000 ≤ a.cycle ∧ a.cycle ≤ 200000) ∨
        ¬ (2000 ≤ a.offLen ∧ a.offLen ≤ 50000) ∨ 20000 < a.ditherSpan ∨ ¬ (1 ≤ a.cycles ∧ a.cycles ≤ 65535) ∨
        ¬ (1 ≤ a.hops ∧ a.hops ≤ 15) ∨ a.cycle < a.offLen + a.ditherSpan + 1500 ∨ 432000000 < a.cycles * a.cycle ∨
        s.params.nat 2 < a.spanFrom ∨ a.spanTo < s.params.nat 2) →
      ∃ t, exec (.surveyStart a) s = .next t ∧ Answers s t 0x20 .value [] s) ∧
    (s.align.timing ≠ .acquire → s.survey.adoptedEntry = none → ditherOfCode a.dither = some d →
      2 ≤ a.lead → a.lead ≤ 4320 → 10000 ≤ a.cycle → a.cycle ≤ 200000 → 2000 ≤ a.offLen → a.offLen ≤ 50000 →
      a.ditherSpan ≤ 20000 → 1 ≤ a.cycles → a.cycles ≤ 65535 → 1 ≤ a.hops → a.hops ≤ 15 →
      a.offLen + a.ditherSpan + 1500 ≤ a.cycle → a.cycles * a.cycle ≤ 432000000 →
      a.spanFrom ≤ s.params.nat 2 → s.params.nat 2 ≤ a.spanTo →
      p =
        { start := (s.timer.lineTime / 100000 + a.lead) * 100000 % 864000000, cycle := a.cycle, offLen := a.offLen
          dither := d, ditherSpan := a.ditherSpan, cycles := a.cycles } →
      ∃ t, exec (.surveyStart a) s = .next t ∧ Answers s t 0x20 .ok []
        { s with
          survey :=
            { table := roomFor (s.survey.table.filter fun e => decide (e.id ≠ id)) ++
                [{ id := id, spanFrom := a.spanFrom, spanTo := a.spanTo, params := some p, halt := none
                   endTime := some ((p.start + p.cycles * p.cycle) % 864000000), state := .pending, relay := .start
                   copiesLeft := 3, hops := a.hops, heard := 0, receipt := s.timer.tally }]
              ownSeq := id.seq }
          port := latched s.port .survey }) ∧
    (s.survey.adoptedEntry = none → ∃ t, exec .surveyHalt s = .next t ∧ Answers s t 0x21 .state [] s) ∧
    (∀ e, s.survey.adoptedEntry = some e →
      (e.id.origin ≠ s.params.nat 1 → ∃ t, exec .surveyHalt s = .next t ∧ Answers s t 0x21 .origin [] s) ∧
      (e.id.origin = s.params.nat 1 → e.halt ≠ none → ∃ t, exec .surveyHalt s = .next t ∧ Answers s t 0x21 .state [] s) ∧
      (e.id.origin = s.params.nat 1 → e.halt = none → h = (s.timer.lineTime / 100000 + 2) * 100000 % 864000000 →
        ∃ t, exec .surveyHalt s = .next t ∧ Answers s t 0x21 .ok []
          { s with
            survey :=
              { s.survey with
                table := s.survey.table.map fun x =>
                  if x.id = e.id then
                    { x with
                      halt := some h
                      endTime :=
                        if (∃ stop ∈ x.endTime, before h stop) ∨
                            (x.state = .pending ∧ ∃ v ∈ x.params, before h v.start) then some h
                        else x.endTime
                      relay := .halt
                      copiesLeft := 3 }
                  else x } }))

/-! ### Captures, the record queue and attention (R33, R34, R38, R39, R162 to R167, R182, R183) -/

/-- CAPTURE OPEN, FETCH and CLOSE in either part state, with every refusal (R34, R38, R39, R182, R183). OPEN holds the more recently sealed
bank; FETCH gives a 12-byte header, whose fields read back as the bank's in the order of section 11.5.1, and entries of 4 bytes, value and
slot number, from the start index on, at most the count asked for, and changes nothing; CLOSE frees and empties the held bank, which a
pending take then takes for the pair in progress. -/
def Obligations.CaptureCommands : Prop :=
  ∀ (s : State) (id : BankId) (first count : Nat),
    s.port.state ≠ .replying →
    (s.acq.bankA.state = .held ∨ s.acq.bankB.state = .held →
      ∃ t, exec .captureOpen s = .next t ∧ Answers s t 0x19 .busy [] s) ∧
    (s.acq.bankA.state ≠ .held → s.acq.bankB.state ≠ .held → s.acq.bankA.state ≠ .sealed → s.acq.bankB.state ≠ .sealed →
      ∃ t, exec .captureOpen s = .next t ∧ Answers s t 0x19 .empty [] s) ∧
    ((s.acq.bank id).state = .sealed → (s.acq.bank id.other).state ≠ .held →
      ((s.acq.bank id.other).state = .sealed → s.acq.newer = some id) →
      ∃ t, exec .captureOpen s = .next t ∧ Answers s t 0x19 .ok [if id = .a then 0 else 1]
        { s with acq := s.acq.setBank id { s.acq.bank id with state := .held } }) ∧
    (s.acq.bankA.state ≠ .held → s.acq.bankB.state ≠ .held →
      (∃ t, exec (.captureFetch first count) s = .next t ∧ Answers s t 0x1A .state [] s) ∧
      (∃ t, exec .captureClose s = .next t ∧ Answers s t 0x1B .state [] s)) ∧
    ((s.acq.bank id).state = .held → (s.acq.bank id.other).state ≠ .held →
      (count = 0 ∨ 32 < count ∨ (s.acq.bank id).entries.length < first →
        ∃ t, exec (.captureFetch first count) s = .next t ∧ Answers s t 0x1A .value [] s) ∧
      (1 ≤ count → count ≤ 32 → first ≤ (s.acq.bank id).entries.length → ∃ t header entries,
        exec (.captureFetch first count) s = .next t ∧ Answers s t 0x1A .ok (header ++ entries) s ∧
          header.length = 12 ∧ header = (s.acq.bank id).encHeader first (min count ((s.acq.bank id).entries.length - first)) ∧
          (∀ h, (s.acq.bank id).header = some h →
            u8 header 0 = (if h.kind = .check then 1 else 2) ∧ u16 header 1 = h.index % 65536 ∧
            (h.survey = none → u16 header 3 = 0 ∧ u8 header 5 = 0) ∧
            (∀ i, h.survey = some i → u16 header 3 = i.origin % 65536 ∧ u8 header 5 = i.seq % 256) ∧
            u8 header 8 = h.truncated.toNat * 2 + h.abandoned.toNat * 4 + h.short.toNat * 8) ∧
          u16 header 6 = (s.acq.bank id).entries.length % 65536 ∧ u16 header 9 = first % 65536 ∧
          u8 header 11 = min count ((s.acq.bank id).entries.length - first) ∧
          entries.length = 4 * min count ((s.acq.bank id).entries.length - first) ∧
          (∀ k e, k < count → (s.acq.bank id).entries[first + k]? = some e →
            (u16 entries (4 * k) : Int) = e.value % 65536 ∧ (u16 entries (4 * k + 2) : Int) = e.slot % 65536) ∧
          entries = (((s.acq.bank id).entries.drop first).take count).flatMap
            (fun e => enc16s e.value ++ enc16s e.slot)) ∧
      (s.acq.pendingTake = false → ∃ t, exec .captureClose s = .next t ∧ Answers s t 0x1B .ok []
        { s with acq := s.acq.setBank id { state := .free, header := none, entries := [] } }) ∧
      (∀ w, s.acq.pendingTake = true → s.acq.current = some w → (s.acq.bank id.other).state ≠ .free →
        ∃ t, exec .captureClose s = .next t ∧ Answers s t 0x1B .ok []
          { s with
            acq :=
              { s.acq.setBank id w.pair.takenBank with
                current := some { w with bank := some id }, pendingTake := false } }))

/-- READ ATTENTION, whole (R167): in any part state it answers OK with the attention byte as it stood, empties the set and releases
ATTN; a reason latched afterwards is not in the reply, stands in the set and asserts ATTN again. -/
def Obligations.ReadAttentionEmptiesTheSet : Prop :=
  ∀ (s : State) (b : Byte),
    s.port.state ≠ .replying →
    (b.getLsbD 0 = s.port.attention.records ∧ b.getLsbD 1 = s.port.attention.driveTrip ∧
      b.getLsbD 2 = s.port.attention.driveLockout ∧ b.getLsbD 3 = s.port.attention.timingLost ∧
      b.getLsbD 4 = s.port.attention.duplicateNumber ∧ b.getLsbD 5 = s.port.attention.regHold ∧
      b.getLsbD 6 = s.port.attention.survey ∧ b.getLsbD 7 = false) →
    ∃ t, exec .readAttention s = .next t ∧
      Answers s t 0x15 .ok [b]
        { s with
          port :=
            { s.port with
              attention :=
                { records := false, driveTrip := false, driveLockout := false, timingLost := false
                  duplicateNumber := false, regHold := false, survey := false }
              attn := false } } ∧
      ∀ r, (t.latch r).port.reply = t.port.reply ∧ (t.latch r).port.attn = true ∧
        ∀ q, (t.latch r).port.attention.has q = decide (q = r)

/-- READ RECORDS, whole (R163): in any part state, VALUE for a count outside 1 to 4, EMPTY for an empty queue, and else OK with the
discard count as it stood, the number of records given and the oldest records, oldest first, which leave the queue; the discard count
then becomes 0. Each record is sent as 26 bytes, whose fields, in the order of section 11.5.1, read back as the record's. -/
def Obligations.ReadRecordsGivesOldest : Prop :=
  ∀ (s : State) (n : Nat),
    s.port.state ≠ .replying →
    (n < 1 ∨ 4 < n → ∃ t, exec (.readRecords n) s = .next t ∧ Answers s t 0x16 .value [] s) ∧
    (1 ≤ n → n ≤ 4 → s.records.queue = [] → ∃ t, exec (.readRecords n) s = .next t ∧ Answers s t 0x16 .empty [] s) ∧
    (1 ≤ n → n ≤ 4 → s.records.queue ≠ [] → ∃ t, exec (.readRecords n) s = .next t ∧
      Answers s t 0x16 .ok
        ([BitVec.ofNat 8 s.records.discards, BitVec.ofNat 8 (min n s.records.queue.length)] ++
          (s.records.queue.take n).flatMap CycleRecord.enc)
        { s with records := { queue := s.records.queue.drop n, discards := 0 } }) ∧
    (∀ (r : CycleRecord) (b : List Byte), b = r.enc →
      b.length = 26 ∧ u8 b 0 = (if r.kind = .check then 1 else 2) ∧ u16 b 1 = r.index % 65536 ∧
      (r.survey = none → u16 b 3 = 0 ∧ u8 b 5 = 0) ∧
      (∀ i, r.survey = some i → u16 b 3 = i.origin % 65536 ∧ u8 b 5 = i.seq % 256) ∧
      u8 b 6 = r.eOn.isSome.toNat + r.eOff.isSome.toNat * 2 + r.holdReason.isSome.toNat * 4 ∧
      (u16 b 7 : Int) = r.eOn.getD 0 % 65536 ∧ (u16 b 9 : Int) = r.eOff.getD 0 % 65536 ∧
      u16 b 11 = r.spread.toNat % 65536 ∧ u16 b 13 = r.iOn.toNat % 65536 ∧ u32 b 15 = r.vOn.toNat % 4294967296 ∧
      u16 b 19 = r.setpoint.toNat % 65536 ∧ u8 b 21 = r.condition.code ∧
      u8 b 22 = (r.holdReason.map HoldReason.code).getD 0 ∧
      u8 b 23 = r.vlimit.toNat + r.truncated.toNat * 2 + r.abandoned.toNat * 4 + r.short.toNat * 8 +
        r.driveFlag.toNat * 16 ∧
      u8 b 24 = r.timing.code ∧ u8 b 25 = r.syncPeers % 256)

/-! ### The port's commands (R96, R158, R170, R175 to R181) -/

/-- LOAD PARAMETER and SET LINE TIME in SETUP (R175, R176, R178): a number outside 1 to 45 or a value outside the parameter's range of
section 10.3 is refused with VALUE, and else it is stored alone; a line time in the line day becomes line time and the line time to
start from, and no epoch end, transmission point or offset is touched. Nothing else changes. -/
def Obligations.LoadAndSetCommands : Prop :=
  ∀ (s : State) (number time : Nat) (value : Int) (ranges : List (Int × Int)),
    s.port.part = .setup → s.port.state ≠ .replying →
    ranges =
      [(1, 4000), (0, 65535), (10, 1000), (0, 2000), (0, 1), (1, 60), (10000, 60000), (0, 2), (0, 20000), (1000, 8000),
        (200, 4000), (1, 256), (500, 5000), (5, 500), (-500, 500), (-200, 200), (-500, 500), (-200, 200), (-500, 500),
        (-200, 200), (1000, 50000), (10000, 100000), (1000, 62500), (1000, 100000), (1, 7), (8, 256), (1, 255),
        (60, 3600), (0, 7), (10, 5000), (0, 1), (500, 2000), (500, 2000), (500, 2000), (1, 4095), (0, 50), (10, 10000),
        (0, 50000), (0, 50000), (0, 50000), (10, 1000), (0, 300), (0, 300), (1, 255), (1, 64)] →
    (number = 0 ∨ 45 < number → ∃ t, exec (.loadParameter number value) s = .next t ∧ Answers s t 0x10 .value [] s) ∧
    (∀ (k : Fin 45) (lo hi : Int), ranges[k.val]? = some (lo, hi) → number = k + 1 →
      (lo ≤ value → value ≤ hi →
        (k = 25 → value = 8 ∨ value = 16 ∨ value = 32 ∨ value = 64 ∨ value = 128 ∨ value = 256) →
        ∃ t, exec (.loadParameter number value) s = .next t ∧ Answers s t 0x10 .ok []
          { s with port := { s.port with params := s.port.params.set k value } }) ∧
      (value < lo ∨ hi < value ∨
        (k = 25 ∧ value ≠ 8 ∧ value ≠ 16 ∧ value ≠ 32 ∧ value ≠ 64 ∧ value ≠ 128 ∧ value ≠ 256) →
        ∃ t, exec (.loadParameter number value) s = .next t ∧ Answers s t 0x10 .value [] s)) ∧
    (time < 864000000 → ∃ t, exec (.setLineTime time) s = .next t ∧ Answers s t 0x12 .ok []
      { s with
        port := { s.port with startTime := time }
        timer := { s.timer with lineTime := time, counted := false } }) ∧
    (864000000 ≤ time → ∃ t, exec (.setLineTime time) s = .next t ∧ Answers s t 0x12 .value [] s)

/-- START in SETUP (R57, R62, R97, R99, R121, R175, R179, R180). The first of C1 to C7 that fails is answered with CONFLICT and its
number, and nothing changes. When all hold, the part is RUNNING in the same event: line time stands at the line time to start from with
the first epoch end set and a transmission point drawn, the converter starts with an OUTI slot, the timing state is ACQUIRE with root 0,
the drive is RAMPING toward the code of I_init with SWITCH closed, I_set is I_init with condition UNKNOWN, the receiver hunts, and the
own plan tag is computed. The elapsed ticks, the parameters and the own survey sequence stay. -/
def Obligations.StartBeginsRun : Prop :=
  ∀ (s : State) (holds : Nat → Prop) (code : Nat),
    s.port.part = .setup → s.port.state ≠ .replying → SetupLaw s →
    (holds 1 ↔ s.params.value 1 ≠ 0) →
    (holds 2 ↔ s.params.value 33 < s.params.value 32 ∧ s.params.value 32 < s.params.value 34) →
    (holds 3 ↔ s.params.value 38 ≤ s.params.value 40 ∧ s.params.value 40 ≤ s.params.value 39 ∧
      s.params.value 39 ≤ s.params.value 21) →
    (holds 4 ↔ s.params.value 39 < s.params.value 23 ∧ s.params.value 23 * 4 ≤ s.params.value 21 * 5) →
    (holds 5 ↔ s.params.value 24 ≤ s.params.value 22) → (holds 6 ↔ s.params.nat 41 ≤ s.params.nat 3) →
    (holds 7 ↔ ∃ m, s.params.nat 12 * 8 ≤ m * 7 ∧ m * 7 < s.params.nat 12 * 8 + 7 ∧
      s.params.nat 11 + m * 5 ≤ s.params.nat 10) →
    (∀ n, 1 ≤ n → n ≤ 7 → ¬ holds n → (∀ m, 1 ≤ m → m < n → holds m) →
      ∃ t, exec .start s = .next t ∧ Answers s t 0x13 .conflict [BitVec.ofNat 8 n] s) ∧
    ((∀ n, 1 ≤ n → n ≤ 7 → holds n) → 0 ≤ s.params.value 40 → 0 < s.params.value 21 →
      (code : Int) * s.params.value 21 * 2 ≤ s.params.value 40 * 4095 * 2 + s.params.value 21 →
      s.params.value 40 * 4095 * 2 + s.params.value 21 < ((code : Int) + 1) * s.params.value 21 * 2 →
      ∃ r t, 5000 ≤ r ∧ r ≤ 84999 ∧ exec .start s = .next t ∧ Answers s t 0x13 .ok []
        { s with
          port := { s.port with part := .running, planTag := s.params.notchPlan.tag }
          timer :=
            { Timer.reset with
              lineTime := s.port.startTime
              elapsed := s.timer.elapsed
              nextEpochEnd := some ((s.port.startTime / 100000 + 1) * 100000 % 864000000)
              txPoint := some ((s.port.startTime / 100000 * 100000 + r) % 864000000) }
          align := { Align.reset with timing := .acquire }
          acq :=
            { Acq.reset with
              running := true
              slotStart := s.timer.elapsed
              seq := 1
              slot :=
                some
                  { channel := .outi, role := .noWindow, pair := none, offset := 0, switchClosed := true, seq := 0 }
              discardFirst := true }
          drive :=
            { Drive.reset with state := .ramping, setpointCode := code, rampTarget := code, switchClosed := true }
          reg := { Reg.reset with iSet := s.params.value 40, code := code }
          link := { Link.reset with rx := .hunt }
          draws := s.draws + 1 })

/-- READ PARAMETER, PART STATUS, PEER LIST and SURVEY LIST change no state but the port's own reply, in either part state (R96, R158,
R177, R181): READ PARAMETER gives the number and the stored value or VALUE; PART STATUS gives 38 bytes whose fields, in the order of
section 11.5.1, read back as the part's; the lists give their entries in table order, 30 bytes and 38 bytes each, whose fields, in the
order of that section, read back as the entry's, an absent field as zero. -/
def Obligations.ReadingCommands : Prop :=
  ∀ (s : State) (number : Nat),
    s.port.state ≠ .replying →
    (1 ≤ number → number ≤ 45 → ∃ t, exec (.readParameter number) s = .next t ∧ Answers s t 0x11 .ok
      (BitVec.ofNat 8 number :: enc32s (s.params.value number)) s) ∧
    (number = 0 ∨ 45 < number → ∃ t, exec (.readParameter number) s = .next t ∧ Answers s t 0x11 .value [] s) ∧
    (∃ t body, exec .partStatus s = .next t ∧ Answers s t 0x14 .ok body s ∧ body.length = 38 ∧
      u8 body 0 = s.port.part.code ∧ u8 body 1 = s.align.timing.code ∧ u16 body 2 = s.align.root % 65536 ∧
      u32 body 4 = s.timer.lineTime % 4294967296 ∧ u16 body 8 = s.timer.tally % 65536 ∧
      u8 body 10 = s.drive.state.code ∧ u8 body 11 = s.drive.cause.code ∧ u8 body 12 = s.drive.retryCount % 256 ∧
      u16 body 13 = s.drive.demand % 65536 ∧ u16 body 15 = s.drive.backoff % 65536 ∧
      u16 body 17 = s.reg.iSet.toNat % 65536 ∧ u8 body 19 = s.reg.condition.code ∧
      u8 body 20 = s.reg.holdCount % 256 ∧
      (s.survey.adoptedEntry = none → u16 body 21 = 0 ∧ u8 body 23 = 0 ∧ u8 body 24 = 0) ∧
      (∀ e, s.survey.adoptedEntry = some e →
        u16 body 21 = e.id.origin % 65536 ∧ u8 body 23 = e.id.seq % 256 ∧ u8 body 24 = e.state.code) ∧
      u8 body 25 = s.records.queue.length % 256 ∧ u8 body 26 = s.acq.bankA.state.code ∧
      u8 body 27 = s.acq.bankB.state.code ∧ u16 body 28 = s.link.crcTally % 65536 ∧
      u16 body 30 = s.link.malformedTally % 65536 ∧ u16 body 32 = s.link.outOfSpanTally % 65536 ∧
      u16 body 34 = s.link.txDropTally % 65536 ∧ u16 body 36 = s.port.errors % 65536) ∧
    (∃ t entries, exec .peerList s = .next t ∧ Answers s t 0x17 .ok (BitVec.ofNat 8 s.peers.length :: entries) s ∧
      entries.length = 30 * s.peers.length ∧
      entries = s.peers.flatMap fun p => p.enc ((s.timer.tally + 65536 - p.lastHeard) % 65536)) ∧
    (∃ t entries, exec .surveyList s = .next t ∧
      Answers s t 0x18 .ok (BitVec.ofNat 8 s.survey.table.length :: entries) s ∧
      entries.length = 38 * s.survey.table.length ∧ entries = s.survey.table.flatMap SurveyEntry.enc) ∧
    (∀ (p : Peer) (age : Nat) (b : List Byte), b = p.enc age →
      b.length = 30 ∧ u16 b 0 = p.station % 65536 ∧ u16 b 2 = p.chainage % 65536 ∧ u8 b 4 = p.planMatch.toNat ∧
      u8 b 5 = p.timing.code ∧ u16 b 6 = p.root % 65536 ∧ (u32 b 8 : Int) = p.offset % 4294967296 ∧
      u16 b 12 = p.lastHeard % 65536 ∧ u8 b 14 = age % 256 ∧ u8 b 15 = p.drive.code ∧ u16 b 16 = p.current % 65536 ∧
      u8 b 18 = p.condition.code ∧
      u8 b 19 = p.holdReason.isSome.toNat + p.depth.isSome.toNat * 2 + p.amount.isSome.toNat * 4 +
        p.survey.isSome.toNat * 8 ∧
      u8 b 20 = (p.holdReason.map HoldReason.code).getD 0 ∧ (u16 b 21 : Int) = p.depth.getD 0 % 65536 ∧
      u16 b 23 = p.amount.getD 0 % 65536 ∧ u8 b 25 = p.plan.code ∧
      u16 b 26 = (p.survey.map fun i => i.origin).getD 0 % 65536 ∧
      u8 b 28 = (p.survey.map fun i => i.seq).getD 0 % 256 ∧ u8 b 29 = p.heardCount % 256) ∧
    (∀ (e : SurveyEntry) (b : List Byte), b = e.enc →
      b.length = 38 ∧ u16 b 0 = e.id.origin % 65536 ∧ u8 b 2 = e.id.seq % 256 ∧ u8 b 3 = e.state.code ∧
      u8 b 4 = e.params.isSome.toNat + e.halt.isSome.toNat * 2 ∧ u16 b 5 = e.spanFrom % 65536 ∧
      u16 b 7 = e.spanTo % 65536 ∧
      (e.params = none → (∀ k, 9 ≤ k → k < 24 → u8 b k = 0)) ∧
      (∀ v, e.params = some v →
        u32 b 9 = v.start % 4294967296 ∧ u32 b 13 = v.cycle % 4294967296 ∧ u16 b 17 = v.offLen % 65536 ∧
        u8 b 19 = v.dither.code ∧ u16 b 20 = v.ditherSpan % 65536 ∧ u16 b 22 = v.cycles % 65536) ∧
      u32 b 24 = e.halt.getD 0 % 4294967296 ∧ u32 b 28 = e.endTime.getD 0 % 4294967296 ∧ u8 b 32 = e.relay.code ∧
      u8 b 33 = e.copiesLeft % 256 ∧ u8 b 34 = e.hops % 256 ∧ u8 b 35 = e.heard % 256 ∧ u16 b 36 = e.receipt % 65536)

/-- The bytes of a command's frame, one after another at a port that is IDLE, take the command at the last of them, exactly as the
command's own row of the opcode table does from the same state with the byte's arrival noted (R168, R170, section 10.1; that a row stands
for its whole frame is the model's choice, log 5), for every command of section 11.5 and every operand of its width. The frame is the
start value, the length, the command's code, its parameter bytes as section 11.5 lays them out, the most significant byte of each field
first, and the CRC-8. -/
def Obligations.PortBytesTakeCommand : Prop :=
  ∀ (s : State) (c : PortCommand) (k : Byte) (ps : List Byte),
    s.port.state = .idle → (rowOf c).wellFormed = true →
    (k, ps) =
      (match c with
        | .loadParameter n v =>
          (0x10, [BitVec.ofNat 8 n, BitVec.ofInt 8 (v / 16777216), BitVec.ofInt 8 (v / 65536), BitVec.ofInt 8 (v / 256),
            BitVec.ofInt 8 v])
        | .readParameter n => (0x11, [BitVec.ofNat 8 n])
        | .setLineTime x =>
          (0x12, [BitVec.ofNat 8 (x / 16777216), BitVec.ofNat 8 (x / 65536), BitVec.ofNat 8 (x / 256), BitVec.ofNat 8 x])
        | .start => (0x13, [])
        | .partStatus => (0x14, [])
        | .readAttention => (0x15, [])
        | .readRecords n => (0x16, [BitVec.ofNat 8 n])
        | .peerList => (0x17, [])
        | .surveyList => (0x18, [])
        | .captureOpen => (0x19, [])
        | .captureFetch i n => (0x1A, [BitVec.ofNat 8 (i / 256), BitVec.ofNat 8 i, BitVec.ofNat 8 n])
        | .captureClose => (0x1B, [])
        | .surveyStart a =>
          (0x20, [BitVec.ofNat 8 (a.lead / 256), BitVec.ofNat 8 a.lead, BitVec.ofNat 8 (a.cycle / 16777216),
            BitVec.ofNat 8 (a.cycle / 65536), BitVec.ofNat 8 (a.cycle / 256), BitVec.ofNat 8 a.cycle,
            BitVec.ofNat 8 (a.offLen / 256), BitVec.ofNat 8 a.offLen, BitVec.ofNat 8 a.dither,
            BitVec.ofNat 8 (a.ditherSpan / 256), BitVec.ofNat 8 a.ditherSpan, BitVec.ofNat 8 (a.cycles / 256),
            BitVec.ofNat 8 a.cycles, BitVec.ofNat 8 (a.spanFrom / 256), BitVec.ofNat 8 a.spanFrom,
            BitVec.ofNat 8 (a.spanTo / 256), BitVec.ofNat 8 a.spanTo, BitVec.ofNat 8 a.hops])
        | .surveyHalt => (0x21, [])
        | .outputOff => (0x22, [])
        | .outputOn => (0x23, [])
        | .clearFault => (0x24, [])
        | .restart => (0x2F, [])) →
    ∃ t, exec (rowOf c) { s with port := { s.port with lastByte := s.timer.elapsed } } = .next t ∧
      receiveBytes s c.frame = some t ∧ t.port.state = .replying ∧
      c.frame = [0xA5, BitVec.ofNat 8 (1 + ps.length), k] ++ ps ++ [crc8 (BitVec.ofNat 8 (1 + ps.length) :: k :: ps)]

/-- What the port cannot use, and what it refuses before a command's own checks (R168 to R172). Each loss raises the port error tally
and, in RECEIVING, discards the frame: a byte that is no start byte in IDLE, a byte in REPLYING, a length byte of 0, a CRC byte that does
not match, a gap of 51 elapsed ticks. Each refusal is answered: UNKNOWN for a code outside section 11.5, VALUE for a known code whose
parameter bytes are not of the length of section 11.5, in either part state, STATE for a command that the part state does not allow. A
reply is over when its last byte has left at 3,840 bytes a second (the moment is the model's reading, log
6). Nothing else changes. -/
def Obligations.PortLossesAndRefusals : Prop :=
  ∀ (s : State) (b : Byte) (c : PortCommand) (code : ReplyCode) (body : List Byte) (lost : Port),
    lost = { s.port with errors := if s.port.errors < 65535 then s.port.errors + 1 else s.port.errors } →
    (s.port.state = .idle → b ≠ 0xA5 → exec (.portByte b) s = .next { s with port := lost }) ∧
    (s.port.state = .replying → exec (.portByte b) s = .next { s with port := lost }) ∧
    (s.port.state = .receiving → s.port.length = none → exec (.portByte 0) s = .next
      { s with
        port := { lost with state := .idle, length := none, bytes := [], lastByte := s.timer.elapsed } }) ∧
    (s.port.state = .receiving → s.port.length = some s.port.bytes.length → s.port.bytes ≠ [] →
      b ≠ crc8 (BitVec.ofNat 8 s.port.bytes.length :: s.port.bytes) → exec (.portByte b) s = .next
        { s with
          port := { lost with state := .idle, length := none, bytes := [], lastByte := s.timer.elapsed } }) ∧
    (s.port.state = .receiving → 51 ≤ (s.timer.elapsed + 4294967296 - s.port.lastByte) % 4294967296 →
      exec .portGapTimeout s = .next
        { s with port := { lost with state := .idle, length := none, bytes := [] } }) ∧
    (s.port.state ≠ .replying → b ∉ knownCodes → ∃ t, exec (.unknownCommand b) s = .next t ∧
      Answers s t b .unknown [] s) ∧
    (∀ (k : Byte) (length : Nat) (ps : List Byte),
      (k, length) ∈ ([(0x10, 5), (0x11, 1), (0x12, 4), (0x13, 0), (0x14, 0), (0x15, 0), (0x16, 1), (0x17, 0), (0x18, 0),
        (0x19, 0), (0x1A, 3), (0x1B, 0), (0x20, 18), (0x21, 0), (0x22, 0), (0x23, 0), (0x24, 0), (0x2F, 0)] :
        List (Byte × Nat)) →
      ps.length ≠ length → s.port.state = .receiving → s.port.bytes = k :: ps → s.port.length = some (1 + ps.length) →
      b = crc8 (BitVec.ofNat 8 (1 + ps.length) :: k :: ps) → ∃ t, exec (.portByte b) s = .next t ∧
        Answers s t k .value [] { s with port := { s.port with lastByte := s.timer.elapsed } }) ∧
    (s.port.state ≠ .replying →
      (s.port.part = .setup ∧ c.code ∈ ([0x20, 0x21, 0x22, 0x23, 0x24] : List Byte) ∨
        s.port.part = .running ∧ c.code ∈ ([0x10, 0x12, 0x13] : List Byte)) →
      ∃ t, exec (rowOf c) s = .next t ∧ Answers s t c.code .state [] s) ∧
    (s.port.state = .replying → s.port.reply = some { code := code, command := b, body := body } →
      (5 + body.length) * 10000 ≤ (s.timer.elapsed + 4294967296 - s.port.replyTick) % 4294967296 * 3840 →
      exec .replySent s = .next { s with port := { s.port with state := .idle, reply := none } })

/-! ### Laws that every step keeps -/

/-- The reset state meets every law that the statements below say each step keeps. -/
def Obligations.ResetMeetsEveryLaw : Prop :=
  SwitchLaw State.reset ∧ WindowLaw State.reset ∧ DriveLaw State.reset ∧ RetryLaw State.reset ∧ AttnLaw State.reset ∧
    RecordsLaw State.reset ∧ TxQueueLaw State.reset ∧ AccessLaw State.reset ∧ KeyLaw State.reset ∧ PeersLaw State.reset ∧
    NoticesLaw State.reset ∧ TimeLaw State.reset ∧ SetupLaw State.reset ∧ RunningLaw State.reset ∧
    AlignLaw State.reset ∧ SetpointLaw State.reset ∧ ParamsLaw State.reset

/-- SWITCH stays as R41 says, and a window is open exactly while a pair is in progress (R7), over every step whatever its command. -/
def Obligations.StepKeepsSwitchAndWindowLaws : Prop :=
  ∀ s t : State, SwitchLaw s → WindowLaw s → step s = .next t → SwitchLaw t ∧ WindowLaw t

/-- The drive's codes, runs and timers keep their ranges and rest where their states say, and the retry count its limit, over every step
(R42, R46, R50 to R52). -/
def Obligations.StepKeepsDriveLaws : Prop :=
  ∀ s t : State, SetupLaw s → DriveLaw s → RetryLaw s → step s = .next t → DriveLaw t ∧ RetryLaw t

/-- ATTN is asserted exactly while the attention set holds a reason, and the record queue keeps its 64 places and its discard count 0 to
255, which is 0 at an empty queue, over every step (R161 to R163, R166). -/
def Obligations.StepKeepsAttentionAndRecords : Prop :=
  ∀ s t : State, AttnLaw s → RecordsLaw s → step s = .next t → AttnLaw t ∧ RecordsLaw t

/-- The transmit queue keeps its 6 places with at most one STATUS frame, the head its state, W and attempt count, and KEY, the
transmitter, its frame and the receiver agree, over every step (R62, R65, R69 to R71). -/
def Obligations.StepKeepsLinkLaws : Prop :=
  ∀ s t : State, SetupLaw s → TxQueueLaw s → AccessLaw s → KeyLaw s → step s = .next t →
    TxQueueLaw t ∧ AccessLaw t ∧ KeyLaw t

/-- The peer table keeps its order, its 8 places, distinct stations and no entry of the own number, and the notice table its 4 places,
distinct identities and one adopted entry at most, over every step (R81, R139, R141, R147). -/
def Obligations.StepKeepsTableLaws : Prop :=
  ∀ s t : State, SetupLaw s → PeersLaw s → NoticesLaw s → step s = .next t → PeersLaw t ∧ NoticesLaw t

/-- In SETUP every block rests at its power-on values, in RUNNING the timing state, the converter and the next epoch end stand as they
must, line time stays in the line day, the alignment unit's counts keep their ranges, and every parameter stays in its range or at its
default, over every step (R1 to R3, R14, R17, R20, R62, R81, R97, R101 to R113, R121, R139, R161, R164, R175). -/
def Obligations.StepKeepsSetupRunningAndTimeLaws : Prop :=
  ∀ s t : State, SetupLaw s → RunningLaw s → TimeLaw s → AlignLaw s → SetpointLaw s → ParamsLaw s → step s = .next t →
    SetupLaw t ∧ RunningLaw t ∧ TimeLaw t ∧ AlignLaw t ∧ SetpointLaw t ∧ ParamsLaw t

/-- While the part is RUNNING no command but power-on reset changes a commissioning parameter, whatever its bytes or operands. No
command but power-on reset, RESTART and PORT_BYTE, whose byte may complete a RESTART, changes the own plan tag, the part state or the line
time to start from, and of the others LINE_TICK alone changes the elapsed-tick count (R2, R174, R175). -/
def Obligations.RecordIsFixedWhileRunning : Prop :=
  ∀ (c : Instr) (s t : State), s.port.part = .running → c ≠ .powerOnReset → exec c s = .next t →
    t.params = s.params ∧
      (c ≠ .restart → (∀ b, c ≠ .portByte b) →
        t.port.planTag = s.port.planTag ∧ t.port.part = .running ∧ t.port.startTime = s.port.startTime ∧
          ((∀ radio tpi, c ≠ .lineTick radio tpi) → t.timer.elapsed = s.timer.elapsed))

end Statements
end

