-- ==== Sys2Proof/Laws/State.lean ====
section
/-! SUPPORT. One lemma per block of the state and per setter, true by definition: what a setter sets, and that it leaves every other
block. -/

namespace Sys2Proof.Machine

@[simp] theorem State.setTimer_timer (s : State) (x : Timer) : (s.setTimer x).timer = x := rfl
@[simp] theorem State.setTimer_align (s : State) (x : Timer) : (s.setTimer x).align = s.align := rfl
@[simp] theorem State.setTimer_acq (s : State) (x : Timer) : (s.setTimer x).acq = s.acq := rfl
@[simp] theorem State.setTimer_drive (s : State) (x : Timer) : (s.setTimer x).drive = s.drive := rfl
@[simp] theorem State.setTimer_reg (s : State) (x : Timer) : (s.setTimer x).reg = s.reg := rfl
@[simp] theorem State.setTimer_link (s : State) (x : Timer) : (s.setTimer x).link = s.link := rfl
@[simp] theorem State.setTimer_peers (s : State) (x : Timer) : (s.setTimer x).peers = s.peers := rfl
@[simp] theorem State.setTimer_survey (s : State) (x : Timer) : (s.setTimer x).survey = s.survey := rfl
@[simp] theorem State.setTimer_records (s : State) (x : Timer) : (s.setTimer x).records = s.records := rfl
@[simp] theorem State.setTimer_port (s : State) (x : Timer) : (s.setTimer x).port = s.port := rfl
@[simp] theorem State.setTimer_lines (s : State) (x : Timer) : (s.setTimer x).lines = s.lines := rfl
@[simp] theorem State.setTimer_draws (s : State) (x : Timer) : (s.setTimer x).draws = s.draws := rfl
@[simp] theorem State.setTimer_pending (s : State) (x : Timer) : (s.setTimer x).pending = s.pending := rfl

@[simp] theorem State.setAlign_timer (s : State) (x : Align) : (s.setAlign x).timer = s.timer := rfl
@[simp] theorem State.setAlign_align (s : State) (x : Align) : (s.setAlign x).align = x := rfl
@[simp] theorem State.setAlign_acq (s : State) (x : Align) : (s.setAlign x).acq = s.acq := rfl
@[simp] theorem State.setAlign_drive (s : State) (x : Align) : (s.setAlign x).drive = s.drive := rfl
@[simp] theorem State.setAlign_reg (s : State) (x : Align) : (s.setAlign x).reg = s.reg := rfl
@[simp] theorem State.setAlign_link (s : State) (x : Align) : (s.setAlign x).link = s.link := rfl
@[simp] theorem State.setAlign_peers (s : State) (x : Align) : (s.setAlign x).peers = s.peers := rfl
@[simp] theorem State.setAlign_survey (s : State) (x : Align) : (s.setAlign x).survey = s.survey := rfl
@[simp] theorem State.setAlign_records (s : State) (x : Align) : (s.setAlign x).records = s.records := rfl
@[simp] theorem State.setAlign_port (s : State) (x : Align) : (s.setAlign x).port = s.port := rfl
@[simp] theorem State.setAlign_lines (s : State) (x : Align) : (s.setAlign x).lines = s.lines := rfl
@[simp] theorem State.setAlign_draws (s : State) (x : Align) : (s.setAlign x).draws = s.draws := rfl
@[simp] theorem State.setAlign_pending (s : State) (x : Align) : (s.setAlign x).pending = s.pending := rfl

@[simp] theorem State.setAcq_timer (s : State) (x : Acq) : (s.setAcq x).timer = s.timer := rfl
@[simp] theorem State.setAcq_align (s : State) (x : Acq) : (s.setAcq x).align = s.align := rfl
@[simp] theorem State.setAcq_acq (s : State) (x : Acq) : (s.setAcq x).acq = x := rfl
@[simp] theorem State.setAcq_drive (s : State) (x : Acq) : (s.setAcq x).drive = s.drive := rfl
@[simp] theorem State.setAcq_reg (s : State) (x : Acq) : (s.setAcq x).reg = s.reg := rfl
@[simp] theorem State.setAcq_link (s : State) (x : Acq) : (s.setAcq x).link = s.link := rfl
@[simp] theorem State.setAcq_peers (s : State) (x : Acq) : (s.setAcq x).peers = s.peers := rfl
@[simp] theorem State.setAcq_survey (s : State) (x : Acq) : (s.setAcq x).survey = s.survey := rfl
@[simp] theorem State.setAcq_records (s : State) (x : Acq) : (s.setAcq x).records = s.records := rfl
@[simp] theorem State.setAcq_port (s : State) (x : Acq) : (s.setAcq x).port = s.port := rfl
@[simp] theorem State.setAcq_lines (s : State) (x : Acq) : (s.setAcq x).lines = s.lines := rfl
@[simp] theorem State.setAcq_draws (s : State) (x : Acq) : (s.setAcq x).draws = s.draws := rfl
@[simp] theorem State.setAcq_pending (s : State) (x : Acq) : (s.setAcq x).pending = s.pending := rfl

@[simp] theorem State.setDrive_timer (s : State) (x : Drive) : (s.setDrive x).timer = s.timer := rfl
@[simp] theorem State.setDrive_align (s : State) (x : Drive) : (s.setDrive x).align = s.align := rfl
@[simp] theorem State.setDrive_acq (s : State) (x : Drive) : (s.setDrive x).acq = s.acq := rfl
@[simp] theorem State.setDrive_drive (s : State) (x : Drive) : (s.setDrive x).drive = x := rfl
@[simp] theorem State.setDrive_reg (s : State) (x : Drive) : (s.setDrive x).reg = s.reg := rfl
@[simp] theorem State.setDrive_link (s : State) (x : Drive) : (s.setDrive x).link = s.link := rfl
@[simp] theorem State.setDrive_peers (s : State) (x : Drive) : (s.setDrive x).peers = s.peers := rfl
@[simp] theorem State.setDrive_survey (s : State) (x : Drive) : (s.setDrive x).survey = s.survey := rfl
@[simp] theorem State.setDrive_records (s : State) (x : Drive) : (s.setDrive x).records = s.records := rfl
@[simp] theorem State.setDrive_port (s : State) (x : Drive) : (s.setDrive x).port = s.port := rfl
@[simp] theorem State.setDrive_lines (s : State) (x : Drive) : (s.setDrive x).lines = s.lines := rfl
@[simp] theorem State.setDrive_draws (s : State) (x : Drive) : (s.setDrive x).draws = s.draws := rfl
@[simp] theorem State.setDrive_pending (s : State) (x : Drive) : (s.setDrive x).pending = s.pending := rfl

@[simp] theorem State.setReg_timer (s : State) (x : Reg) : (s.setReg x).timer = s.timer := rfl
@[simp] theorem State.setReg_align (s : State) (x : Reg) : (s.setReg x).align = s.align := rfl
@[simp] theorem State.setReg_acq (s : State) (x : Reg) : (s.setReg x).acq = s.acq := rfl
@[simp] theorem State.setReg_drive (s : State) (x : Reg) : (s.setReg x).drive = s.drive := rfl
@[simp] theorem State.setReg_reg (s : State) (x : Reg) : (s.setReg x).reg = x := rfl
@[simp] theorem State.setReg_link (s : State) (x : Reg) : (s.setReg x).link = s.link := rfl
@[simp] theorem State.setReg_peers (s : State) (x : Reg) : (s.setReg x).peers = s.peers := rfl
@[simp] theorem State.setReg_survey (s : State) (x : Reg) : (s.setReg x).survey = s.survey := rfl
@[simp] theorem State.setReg_records (s : State) (x : Reg) : (s.setReg x).records = s.records := rfl
@[simp] theorem State.setReg_port (s : State) (x : Reg) : (s.setReg x).port = s.port := rfl
@[simp] theorem State.setReg_lines (s : State) (x : Reg) : (s.setReg x).lines = s.lines := rfl
@[simp] theorem State.setReg_draws (s : State) (x : Reg) : (s.setReg x).draws = s.draws := rfl
@[simp] theorem State.setReg_pending (s : State) (x : Reg) : (s.setReg x).pending = s.pending := rfl

@[simp] theorem State.setLink_timer (s : State) (x : Link) : (s.setLink x).timer = s.timer := rfl
@[simp] theorem State.setLink_align (s : State) (x : Link) : (s.setLink x).align = s.align := rfl
@[simp] theorem State.setLink_acq (s : State) (x : Link) : (s.setLink x).acq = s.acq := rfl
@[simp] theorem State.setLink_drive (s : State) (x : Link) : (s.setLink x).drive = s.drive := rfl
@[simp] theorem State.setLink_reg (s : State) (x : Link) : (s.setLink x).reg = s.reg := rfl
@[simp] theorem State.setLink_link (s : State) (x : Link) : (s.setLink x).link = x := rfl
@[simp] theorem State.setLink_peers (s : State) (x : Link) : (s.setLink x).peers = s.peers := rfl
@[simp] theorem State.setLink_survey (s : State) (x : Link) : (s.setLink x).survey = s.survey := rfl
@[simp] theorem State.setLink_records (s : State) (x : Link) : (s.setLink x).records = s.records := rfl
@[simp] theorem State.setLink_port (s : State) (x : Link) : (s.setLink x).port = s.port := rfl
@[simp] theorem State.setLink_lines (s : State) (x : Link) : (s.setLink x).lines = s.lines := rfl
@[simp] theorem State.setLink_draws (s : State) (x : Link) : (s.setLink x).draws = s.draws := rfl
@[simp] theorem State.setLink_pending (s : State) (x : Link) : (s.setLink x).pending = s.pending := rfl

@[simp] theorem State.setPeers_timer (s : State) (x : List Peer) : (s.setPeers x).timer = s.timer := rfl
@[simp] theorem State.setPeers_align (s : State) (x : List Peer) : (s.setPeers x).align = s.align := rfl
@[simp] theorem State.setPeers_acq (s : State) (x : List Peer) : (s.setPeers x).acq = s.acq := rfl
@[simp] theorem State.setPeers_drive (s : State) (x : List Peer) : (s.setPeers x).drive = s.drive := rfl
@[simp] theorem State.setPeers_reg (s : State) (x : List Peer) : (s.setPeers x).reg = s.reg := rfl
@[simp] theorem State.setPeers_link (s : State) (x : List Peer) : (s.setPeers x).link = s.link := rfl
@[simp] theorem State.setPeers_peers (s : State) (x : List Peer) : (s.setPeers x).peers = x := rfl
@[simp] theorem State.setPeers_survey (s : State) (x : List Peer) : (s.setPeers x).survey = s.survey := rfl
@[simp] theorem State.setPeers_records (s : State) (x : List Peer) : (s.setPeers x).records = s.records := rfl
@[simp] theorem State.setPeers_port (s : State) (x : List Peer) : (s.setPeers x).port = s.port := rfl
@[simp] theorem State.setPeers_lines (s : State) (x : List Peer) : (s.setPeers x).lines = s.lines := rfl
@[simp] theorem State.setPeers_draws (s : State) (x : List Peer) : (s.setPeers x).draws = s.draws := rfl
@[simp] theorem State.setPeers_pending (s : State) (x : List Peer) : (s.setPeers x).pending = s.pending := rfl

@[simp] theorem State.setSurvey_timer (s : State) (x : Survey) : (s.setSurvey x).timer = s.timer := rfl
@[simp] theorem State.setSurvey_align (s : State) (x : Survey) : (s.setSurvey x).align = s.align := rfl
@[simp] theorem State.setSurvey_acq (s : State) (x : Survey) : (s.setSurvey x).acq = s.acq := rfl
@[simp] theorem State.setSurvey_drive (s : State) (x : Survey) : (s.setSurvey x).drive = s.drive := rfl
@[simp] theorem State.setSurvey_reg (s : State) (x : Survey) : (s.setSurvey x).reg = s.reg := rfl
@[simp] theorem State.setSurvey_link (s : State) (x : Survey) : (s.setSurvey x).link = s.link := rfl
@[simp] theorem State.setSurvey_peers (s : State) (x : Survey) : (s.setSurvey x).peers = s.peers := rfl
@[simp] theorem State.setSurvey_survey (s : State) (x : Survey) : (s.setSurvey x).survey = x := rfl
@[simp] theorem State.setSurvey_records (s : State) (x : Survey) : (s.setSurvey x).records = s.records := rfl
@[simp] theorem State.setSurvey_port (s : State) (x : Survey) : (s.setSurvey x).port = s.port := rfl
@[simp] theorem State.setSurvey_lines (s : State) (x : Survey) : (s.setSurvey x).lines = s.lines := rfl
@[simp] theorem State.setSurvey_draws (s : State) (x : Survey) : (s.setSurvey x).draws = s.draws := rfl
@[simp] theorem State.setSurvey_pending (s : State) (x : Survey) : (s.setSurvey x).pending = s.pending := rfl

@[simp] theorem State.setRecords_timer (s : State) (x : Records) : (s.setRecords x).timer = s.timer := rfl
@[simp] theorem State.setRecords_align (s : State) (x : Records) : (s.setRecords x).align = s.align := rfl
@[simp] theorem State.setRecords_acq (s : State) (x : Records) : (s.setRecords x).acq = s.acq := rfl
@[simp] theorem State.setRecords_drive (s : State) (x : Records) : (s.setRecords x).drive = s.drive := rfl
@[simp] theorem State.setRecords_reg (s : State) (x : Records) : (s.setRecords x).reg = s.reg := rfl
@[simp] theorem State.setRecords_link (s : State) (x : Records) : (s.setRecords x).link = s.link := rfl
@[simp] theorem State.setRecords_peers (s : State) (x : Records) : (s.setRecords x).peers = s.peers := rfl
@[simp] theorem State.setRecords_survey (s : State) (x : Records) : (s.setRecords x).survey = s.survey := rfl
@[simp] theorem State.setRecords_records (s : State) (x : Records) : (s.setRecords x).records = x := rfl
@[simp] theorem State.setRecords_port (s : State) (x : Records) : (s.setRecords x).port = s.port := rfl
@[simp] theorem State.setRecords_lines (s : State) (x : Records) : (s.setRecords x).lines = s.lines := rfl
@[simp] theorem State.setRecords_draws (s : State) (x : Records) : (s.setRecords x).draws = s.draws := rfl
@[simp] theorem State.setRecords_pending (s : State) (x : Records) : (s.setRecords x).pending = s.pending := rfl

@[simp] theorem State.setPort_timer (s : State) (x : Port) : (s.setPort x).timer = s.timer := rfl
@[simp] theorem State.setPort_align (s : State) (x : Port) : (s.setPort x).align = s.align := rfl
@[simp] theorem State.setPort_acq (s : State) (x : Port) : (s.setPort x).acq = s.acq := rfl
@[simp] theorem State.setPort_drive (s : State) (x : Port) : (s.setPort x).drive = s.drive := rfl
@[simp] theorem State.setPort_reg (s : State) (x : Port) : (s.setPort x).reg = s.reg := rfl
@[simp] theorem State.setPort_link (s : State) (x : Port) : (s.setPort x).link = s.link := rfl
@[simp] theorem State.setPort_peers (s : State) (x : Port) : (s.setPort x).peers = s.peers := rfl
@[simp] theorem State.setPort_survey (s : State) (x : Port) : (s.setPort x).survey = s.survey := rfl
@[simp] theorem State.setPort_records (s : State) (x : Port) : (s.setPort x).records = s.records := rfl
@[simp] theorem State.setPort_port (s : State) (x : Port) : (s.setPort x).port = x := rfl
@[simp] theorem State.setPort_lines (s : State) (x : Port) : (s.setPort x).lines = s.lines := rfl
@[simp] theorem State.setPort_draws (s : State) (x : Port) : (s.setPort x).draws = s.draws := rfl
@[simp] theorem State.setPort_pending (s : State) (x : Port) : (s.setPort x).pending = s.pending := rfl

@[simp] theorem State.setLines_timer (s : State) (x : Lines) : (s.setLines x).timer = s.timer := rfl
@[simp] theorem State.setLines_align (s : State) (x : Lines) : (s.setLines x).align = s.align := rfl
@[simp] theorem State.setLines_acq (s : State) (x : Lines) : (s.setLines x).acq = s.acq := rfl
@[simp] theorem State.setLines_drive (s : State) (x : Lines) : (s.setLines x).drive = s.drive := rfl
@[simp] theorem State.setLines_reg (s : State) (x : Lines) : (s.setLines x).reg = s.reg := rfl
@[simp] theorem State.setLines_link (s : State) (x : Lines) : (s.setLines x).link = s.link := rfl
@[simp] theorem State.setLines_peers (s : State) (x : Lines) : (s.setLines x).peers = s.peers := rfl
@[simp] theorem State.setLines_survey (s : State) (x : Lines) : (s.setLines x).survey = s.survey := rfl
@[simp] theorem State.setLines_records (s : State) (x : Lines) : (s.setLines x).records = s.records := rfl
@[simp] theorem State.setLines_port (s : State) (x : Lines) : (s.setLines x).port = s.port := rfl
@[simp] theorem State.setLines_lines (s : State) (x : Lines) : (s.setLines x).lines = x := rfl
@[simp] theorem State.setLines_draws (s : State) (x : Lines) : (s.setLines x).draws = s.draws := rfl
@[simp] theorem State.setLines_pending (s : State) (x : Lines) : (s.setLines x).pending = s.pending := rfl

@[simp] theorem State.setDraws_timer (s : State) (x : Nat) : (s.setDraws x).timer = s.timer := rfl
@[simp] theorem State.setDraws_align (s : State) (x : Nat) : (s.setDraws x).align = s.align := rfl
@[simp] theorem State.setDraws_acq (s : State) (x : Nat) : (s.setDraws x).acq = s.acq := rfl
@[simp] theorem State.setDraws_drive (s : State) (x : Nat) : (s.setDraws x).drive = s.drive := rfl
@[simp] theorem State.setDraws_reg (s : State) (x : Nat) : (s.setDraws x).reg = s.reg := rfl
@[simp] theorem State.setDraws_link (s : State) (x : Nat) : (s.setDraws x).link = s.link := rfl
@[simp] theorem State.setDraws_peers (s : State) (x : Nat) : (s.setDraws x).peers = s.peers := rfl
@[simp] theorem State.setDraws_survey (s : State) (x : Nat) : (s.setDraws x).survey = s.survey := rfl
@[simp] theorem State.setDraws_records (s : State) (x : Nat) : (s.setDraws x).records = s.records := rfl
@[simp] theorem State.setDraws_port (s : State) (x : Nat) : (s.setDraws x).port = s.port := rfl
@[simp] theorem State.setDraws_lines (s : State) (x : Nat) : (s.setDraws x).lines = s.lines := rfl
@[simp] theorem State.setDraws_draws (s : State) (x : Nat) : (s.setDraws x).draws = x := rfl
@[simp] theorem State.setDraws_pending (s : State) (x : Nat) : (s.setDraws x).pending = s.pending := rfl

@[simp] theorem State.setPending_timer (s : State) (x : List Instr) : (s.setPending x).timer = s.timer := rfl
@[simp] theorem State.setPending_align (s : State) (x : List Instr) : (s.setPending x).align = s.align := rfl
@[simp] theorem State.setPending_acq (s : State) (x : List Instr) : (s.setPending x).acq = s.acq := rfl
@[simp] theorem State.setPending_drive (s : State) (x : List Instr) : (s.setPending x).drive = s.drive := rfl
@[simp] theorem State.setPending_reg (s : State) (x : List Instr) : (s.setPending x).reg = s.reg := rfl
@[simp] theorem State.setPending_link (s : State) (x : List Instr) : (s.setPending x).link = s.link := rfl
@[simp] theorem State.setPending_peers (s : State) (x : List Instr) : (s.setPending x).peers = s.peers := rfl
@[simp] theorem State.setPending_survey (s : State) (x : List Instr) : (s.setPending x).survey = s.survey := rfl
@[simp] theorem State.setPending_records (s : State) (x : List Instr) : (s.setPending x).records = s.records := rfl
@[simp] theorem State.setPending_port (s : State) (x : List Instr) : (s.setPending x).port = s.port := rfl
@[simp] theorem State.setPending_lines (s : State) (x : List Instr) : (s.setPending x).lines = s.lines := rfl
@[simp] theorem State.setPending_draws (s : State) (x : List Instr) : (s.setPending x).draws = s.draws := rfl
@[simp] theorem State.setPending_pending (s : State) (x : List Instr) : (s.setPending x).pending = x := rfl

end Sys2Proof.Machine
end

