-- ==== Sys2Proof/Laws/Frames.lean ====
section
/-! SUPPORT. What each shared operation leaves unchanged: one lemma per operation, which names every block (and, of the line timer
and the port, every field) that it does not touch, so that no proof unfolds the operation to learn it. -/

namespace Sys2Proof.Machine

set_option linter.unusedTactic false
set_option linter.unnecessarySeqFocus false

@[simp] theorem State.latch_frame (s : State) (r : Reason) :
    (s.latch r).timer = s.timer ∧ (s.latch r).align = s.align ∧ (s.latch r).acq = s.acq ∧
      (s.latch r).drive = s.drive ∧ (s.latch r).reg = s.reg ∧ (s.latch r).link = s.link ∧
      (s.latch r).peers = s.peers ∧ (s.latch r).survey = s.survey ∧ (s.latch r).records = s.records ∧
      (s.latch r).lines = s.lines ∧ (s.latch r).draws = s.draws ∧ (s.latch r).pending = s.pending ∧
      (s.latch r).port.part = s.port.part ∧ (s.latch r).port.state = s.port.state ∧
      (s.latch r).port.length = s.port.length ∧ (s.latch r).port.bytes = s.port.bytes ∧
      (s.latch r).port.lastByte = s.port.lastByte ∧ (s.latch r).port.reply = s.port.reply ∧
      (s.latch r).port.replyTick = s.port.replyTick ∧ (s.latch r).port.params = s.port.params ∧
      (s.latch r).port.planTag = s.port.planTag ∧ (s.latch r).port.startTime = s.port.startTime ∧
      (s.latch r).port.errors = s.port.errors := by
  unfold State.latch; try dsimp only
  (repeat' split) <;> simp

@[simp] theorem State.latchIf_frame (s : State) (c : Prop) [Decidable c] (r : Reason) :
    (s.latchIf c r).timer = s.timer ∧ (s.latchIf c r).align = s.align ∧ (s.latchIf c r).acq = s.acq ∧
      (s.latchIf c r).drive = s.drive ∧ (s.latchIf c r).reg = s.reg ∧ (s.latchIf c r).link = s.link ∧
      (s.latchIf c r).peers = s.peers ∧ (s.latchIf c r).survey = s.survey ∧ (s.latchIf c r).records = s.records ∧
      (s.latchIf c r).lines = s.lines ∧ (s.latchIf c r).draws = s.draws ∧ (s.latchIf c r).pending = s.pending ∧
      (s.latchIf c r).port.part = s.port.part ∧ (s.latchIf c r).port.state = s.port.state ∧
      (s.latchIf c r).port.length = s.port.length ∧ (s.latchIf c r).port.bytes = s.port.bytes ∧
      (s.latchIf c r).port.lastByte = s.port.lastByte ∧ (s.latchIf c r).port.reply = s.port.reply ∧
      (s.latchIf c r).port.replyTick = s.port.replyTick ∧ (s.latchIf c r).port.params = s.port.params ∧
      (s.latchIf c r).port.planTag = s.port.planTag ∧ (s.latchIf c r).port.startTime = s.port.startTime ∧
      (s.latchIf c r).port.errors = s.port.errors := by
  unfold State.latchIf; try dsimp only
  (repeat' split) <;> simp

@[simp] theorem State.clearAttention_frame (s : State) :
    (s.clearAttention).timer = s.timer ∧ (s.clearAttention).align = s.align ∧ (s.clearAttention).acq = s.acq ∧
      (s.clearAttention).drive = s.drive ∧ (s.clearAttention).reg = s.reg ∧ (s.clearAttention).link = s.link ∧
      (s.clearAttention).peers = s.peers ∧ (s.clearAttention).survey = s.survey ∧
      (s.clearAttention).records = s.records ∧ (s.clearAttention).lines = s.lines ∧
      (s.clearAttention).draws = s.draws ∧ (s.clearAttention).pending = s.pending ∧
      (s.clearAttention).port.part = s.port.part ∧ (s.clearAttention).port.state = s.port.state ∧
      (s.clearAttention).port.length = s.port.length ∧ (s.clearAttention).port.bytes = s.port.bytes ∧
      (s.clearAttention).port.lastByte = s.port.lastByte ∧ (s.clearAttention).port.reply = s.port.reply ∧
      (s.clearAttention).port.replyTick = s.port.replyTick ∧ (s.clearAttention).port.params = s.port.params ∧
      (s.clearAttention).port.planTag = s.port.planTag ∧ (s.clearAttention).port.startTime = s.port.startTime ∧
      (s.clearAttention).port.errors = s.port.errors := by
  unfold State.clearAttention; try dsimp only
  (repeat' split) <;> simp

@[simp] theorem State.countCrc_frame (s : State) :
    (s.countCrc).timer = s.timer ∧ (s.countCrc).align = s.align ∧ (s.countCrc).acq = s.acq ∧
      (s.countCrc).drive = s.drive ∧ (s.countCrc).reg = s.reg ∧ (s.countCrc).peers = s.peers ∧
      (s.countCrc).survey = s.survey ∧ (s.countCrc).records = s.records ∧ (s.countCrc).port = s.port ∧
      (s.countCrc).lines = s.lines ∧ (s.countCrc).draws = s.draws ∧ (s.countCrc).pending = s.pending := by
  unfold State.countCrc; try dsimp only
  (repeat' split) <;> simp

@[simp] theorem State.countMalformed_frame (s : State) :
    (s.countMalformed).timer = s.timer ∧ (s.countMalformed).align = s.align ∧ (s.countMalformed).acq = s.acq ∧
      (s.countMalformed).drive = s.drive ∧ (s.countMalformed).reg = s.reg ∧ (s.countMalformed).peers = s.peers ∧
      (s.countMalformed).survey = s.survey ∧ (s.countMalformed).records = s.records ∧
      (s.countMalformed).port = s.port ∧ (s.countMalformed).lines = s.lines ∧ (s.countMalformed).draws = s.draws ∧
      (s.countMalformed).pending = s.pending := by
  unfold State.countMalformed; try dsimp only
  (repeat' split) <;> simp

@[simp] theorem State.countOutOfSpan_frame (s : State) :
    (s.countOutOfSpan).timer = s.timer ∧ (s.countOutOfSpan).align = s.align ∧ (s.countOutOfSpan).acq = s.acq ∧
      (s.countOutOfSpan).drive = s.drive ∧ (s.countOutOfSpan).reg = s.reg ∧ (s.countOutOfSpan).peers = s.peers ∧
      (s.countOutOfSpan).survey = s.survey ∧ (s.countOutOfSpan).records = s.records ∧
      (s.countOutOfSpan).port = s.port ∧ (s.countOutOfSpan).lines = s.lines ∧ (s.countOutOfSpan).draws = s.draws ∧
      (s.countOutOfSpan).pending = s.pending := by
  unfold State.countOutOfSpan; try dsimp only
  (repeat' split) <;> simp

@[simp] theorem State.countTxDrop_frame (s : State) :
    (s.countTxDrop).timer = s.timer ∧ (s.countTxDrop).align = s.align ∧ (s.countTxDrop).acq = s.acq ∧
      (s.countTxDrop).drive = s.drive ∧ (s.countTxDrop).reg = s.reg ∧ (s.countTxDrop).peers = s.peers ∧
      (s.countTxDrop).survey = s.survey ∧ (s.countTxDrop).records = s.records ∧ (s.countTxDrop).port = s.port ∧
      (s.countTxDrop).lines = s.lines ∧ (s.countTxDrop).draws = s.draws ∧ (s.countTxDrop).pending = s.pending := by
  unfold State.countTxDrop; try dsimp only
  (repeat' split) <;> simp

@[simp] theorem State.refreshSwitch_frame (s : State) :
    (s.refreshSwitch).timer = s.timer ∧ (s.refreshSwitch).align = s.align ∧ (s.refreshSwitch).acq = s.acq ∧
      (s.refreshSwitch).reg = s.reg ∧ (s.refreshSwitch).link = s.link ∧ (s.refreshSwitch).peers = s.peers ∧
      (s.refreshSwitch).survey = s.survey ∧ (s.refreshSwitch).records = s.records ∧
      (s.refreshSwitch).port = s.port ∧ (s.refreshSwitch).lines = s.lines ∧ (s.refreshSwitch).draws = s.draws ∧
      (s.refreshSwitch).pending = s.pending := by
  unfold State.refreshSwitch; try dsimp only
  (repeat' split) <;> simp

@[simp] theorem State.addRecord_frame (s : State) (r : CycleRecord) :
    (s.addRecord r).timer = s.timer ∧ (s.addRecord r).align = s.align ∧ (s.addRecord r).acq = s.acq ∧
      (s.addRecord r).drive = s.drive ∧ (s.addRecord r).reg = s.reg ∧ (s.addRecord r).link = s.link ∧
      (s.addRecord r).peers = s.peers ∧ (s.addRecord r).survey = s.survey ∧ (s.addRecord r).lines = s.lines ∧
      (s.addRecord r).draws = s.draws ∧ (s.addRecord r).pending = s.pending ∧
      (s.addRecord r).port.part = s.port.part ∧ (s.addRecord r).port.state = s.port.state ∧
      (s.addRecord r).port.length = s.port.length ∧ (s.addRecord r).port.bytes = s.port.bytes ∧
      (s.addRecord r).port.lastByte = s.port.lastByte ∧ (s.addRecord r).port.reply = s.port.reply ∧
      (s.addRecord r).port.replyTick = s.port.replyTick ∧ (s.addRecord r).port.params = s.port.params ∧
      (s.addRecord r).port.planTag = s.port.planTag ∧ (s.addRecord r).port.startTime = s.port.startTime ∧
      (s.addRecord r).port.errors = s.port.errors := by
  unfold State.addRecord; try dsimp only
  (repeat' split) <;> simp

@[simp] theorem State.withDrive_frame (s : State) (d : Drive) :
    (s.withDrive d).timer = s.timer ∧ (s.withDrive d).align = s.align ∧ (s.withDrive d).acq = s.acq ∧
      (s.withDrive d).reg = s.reg ∧ (s.withDrive d).link = s.link ∧ (s.withDrive d).peers = s.peers ∧
      (s.withDrive d).survey = s.survey ∧ (s.withDrive d).records = s.records ∧ (s.withDrive d).port = s.port ∧
      (s.withDrive d).lines = s.lines ∧ (s.withDrive d).draws = s.draws ∧ (s.withDrive d).pending = s.pending := by
  unfold State.withDrive; try dsimp only
  (repeat' split) <;> simp

@[simp] theorem State.lockOut_frame (s : State) (c : TripCause) :
    (s.lockOut c).timer = s.timer ∧ (s.lockOut c).align = s.align ∧ (s.lockOut c).acq = s.acq ∧
      (s.lockOut c).reg = s.reg ∧ (s.lockOut c).link = s.link ∧ (s.lockOut c).peers = s.peers ∧
      (s.lockOut c).survey = s.survey ∧ (s.lockOut c).records = s.records ∧ (s.lockOut c).lines = s.lines ∧
      (s.lockOut c).draws = s.draws ∧ (s.lockOut c).pending = s.pending ∧ (s.lockOut c).port.part = s.port.part ∧
      (s.lockOut c).port.state = s.port.state ∧ (s.lockOut c).port.length = s.port.length ∧
      (s.lockOut c).port.bytes = s.port.bytes ∧ (s.lockOut c).port.lastByte = s.port.lastByte ∧
      (s.lockOut c).port.reply = s.port.reply ∧ (s.lockOut c).port.replyTick = s.port.replyTick ∧
      (s.lockOut c).port.params = s.port.params ∧ (s.lockOut c).port.planTag = s.port.planTag ∧
      (s.lockOut c).port.startTime = s.port.startTime ∧ (s.lockOut c).port.errors = s.port.errors := by
  unfold State.lockOut; try dsimp only
  (repeat' split) <;> simp

@[simp] theorem State.trip_frame (s : State) (c : TripCause) :
    (s.trip c).timer = s.timer ∧ (s.trip c).align = s.align ∧ (s.trip c).acq = s.acq ∧ (s.trip c).reg = s.reg ∧
      (s.trip c).link = s.link ∧ (s.trip c).peers = s.peers ∧ (s.trip c).survey = s.survey ∧
      (s.trip c).records = s.records ∧ (s.trip c).lines = s.lines ∧ (s.trip c).draws = s.draws ∧
      (s.trip c).pending = s.pending ∧ (s.trip c).port.part = s.port.part ∧ (s.trip c).port.state = s.port.state ∧
      (s.trip c).port.length = s.port.length ∧ (s.trip c).port.bytes = s.port.bytes ∧
      (s.trip c).port.lastByte = s.port.lastByte ∧ (s.trip c).port.reply = s.port.reply ∧
      (s.trip c).port.replyTick = s.port.replyTick ∧ (s.trip c).port.params = s.port.params ∧
      (s.trip c).port.planTag = s.port.planTag ∧ (s.trip c).port.startTime = s.port.startTime ∧
      (s.trip c).port.errors = s.port.errors := by
  unfold State.trip; try dsimp only
  (repeat' split) <;> simp

@[simp] theorem State.openFilterSample_frame (s : State) (v : Int) :
    (s.openFilterSample v).timer = s.timer ∧ (s.openFilterSample v).align = s.align ∧
      (s.openFilterSample v).acq = s.acq ∧ (s.openFilterSample v).reg = s.reg ∧
      (s.openFilterSample v).link = s.link ∧ (s.openFilterSample v).peers = s.peers ∧
      (s.openFilterSample v).survey = s.survey ∧ (s.openFilterSample v).records = s.records ∧
      (s.openFilterSample v).lines = s.lines ∧ (s.openFilterSample v).draws = s.draws ∧
      (s.openFilterSample v).pending = s.pending ∧ (s.openFilterSample v).port.part = s.port.part ∧
      (s.openFilterSample v).port.state = s.port.state ∧ (s.openFilterSample v).port.length = s.port.length ∧
      (s.openFilterSample v).port.bytes = s.port.bytes ∧ (s.openFilterSample v).port.lastByte = s.port.lastByte ∧
      (s.openFilterSample v).port.reply = s.port.reply ∧ (s.openFilterSample v).port.replyTick = s.port.replyTick ∧
      (s.openFilterSample v).port.params = s.port.params ∧ (s.openFilterSample v).port.planTag = s.port.planTag ∧
      (s.openFilterSample v).port.startTime = s.port.startTime ∧
      (s.openFilterSample v).port.errors = s.port.errors := by
  unfold State.openFilterSample; try dsimp only
  (repeat' split) <;> simp

@[simp] theorem State.outiSample_frame (s : State) (v : Int) :
    (s.outiSample v).timer = s.timer ∧ (s.outiSample v).align = s.align ∧ (s.outiSample v).acq = s.acq ∧
      (s.outiSample v).reg = s.reg ∧ (s.outiSample v).link = s.link ∧ (s.outiSample v).peers = s.peers ∧
      (s.outiSample v).survey = s.survey ∧ (s.outiSample v).records = s.records ∧ (s.outiSample v).lines = s.lines ∧
      (s.outiSample v).draws = s.draws ∧ (s.outiSample v).pending = s.pending ∧
      (s.outiSample v).port.part = s.port.part ∧ (s.outiSample v).port.state = s.port.state ∧
      (s.outiSample v).port.length = s.port.length ∧ (s.outiSample v).port.bytes = s.port.bytes ∧
      (s.outiSample v).port.lastByte = s.port.lastByte ∧ (s.outiSample v).port.reply = s.port.reply ∧
      (s.outiSample v).port.replyTick = s.port.replyTick ∧ (s.outiSample v).port.params = s.port.params ∧
      (s.outiSample v).port.planTag = s.port.planTag ∧ (s.outiSample v).port.startTime = s.port.startTime ∧
      (s.outiSample v).port.errors = s.port.errors := by
  unfold State.outiSample; try dsimp only
  (repeat' split) <;> simp

@[simp] theorem State.outvSample_frame (s : State) (v : Int) :
    (s.outvSample v).timer = s.timer ∧ (s.outvSample v).align = s.align ∧ (s.outvSample v).acq = s.acq ∧
      (s.outvSample v).reg = s.reg ∧ (s.outvSample v).link = s.link ∧ (s.outvSample v).peers = s.peers ∧
      (s.outvSample v).survey = s.survey ∧ (s.outvSample v).records = s.records ∧ (s.outvSample v).port = s.port ∧
      (s.outvSample v).lines = s.lines ∧ (s.outvSample v).draws = s.draws ∧ (s.outvSample v).pending = s.pending := by
  unfold State.outvSample; try dsimp only
  (repeat' split) <;> simp

@[simp] theorem State.protectionSample_frame (s : State) (ch : Channel) (v : Int) :
    (s.protectionSample ch v).timer = s.timer ∧ (s.protectionSample ch v).align = s.align ∧
      (s.protectionSample ch v).acq = s.acq ∧ (s.protectionSample ch v).reg = s.reg ∧
      (s.protectionSample ch v).link = s.link ∧ (s.protectionSample ch v).peers = s.peers ∧
      (s.protectionSample ch v).survey = s.survey ∧ (s.protectionSample ch v).records = s.records ∧
      (s.protectionSample ch v).lines = s.lines ∧ (s.protectionSample ch v).draws = s.draws ∧
      (s.protectionSample ch v).pending = s.pending ∧ (s.protectionSample ch v).port.part = s.port.part ∧
      (s.protectionSample ch v).port.state = s.port.state ∧ (s.protectionSample ch v).port.length = s.port.length ∧
      (s.protectionSample ch v).port.bytes = s.port.bytes ∧
      (s.protectionSample ch v).port.lastByte = s.port.lastByte ∧
      (s.protectionSample ch v).port.reply = s.port.reply ∧
      (s.protectionSample ch v).port.replyTick = s.port.replyTick ∧
      (s.protectionSample ch v).port.params = s.port.params ∧
      (s.protectionSample ch v).port.planTag = s.port.planTag ∧
      (s.protectionSample ch v).port.startTime = s.port.startTime ∧
      (s.protectionSample ch v).port.errors = s.port.errors := by
  unfold State.protectionSample; try dsimp only
  (repeat' split) <;> simp

@[simp] theorem State.stuckSwitch_frame (s : State) :
    (s.stuckSwitch).timer = s.timer ∧ (s.stuckSwitch).align = s.align ∧ (s.stuckSwitch).acq = s.acq ∧
      (s.stuckSwitch).reg = s.reg ∧ (s.stuckSwitch).link = s.link ∧ (s.stuckSwitch).peers = s.peers ∧
      (s.stuckSwitch).survey = s.survey ∧ (s.stuckSwitch).records = s.records ∧ (s.stuckSwitch).lines = s.lines ∧
      (s.stuckSwitch).draws = s.draws ∧ (s.stuckSwitch).pending = s.pending ∧
      (s.stuckSwitch).port.part = s.port.part ∧ (s.stuckSwitch).port.state = s.port.state ∧
      (s.stuckSwitch).port.length = s.port.length ∧ (s.stuckSwitch).port.bytes = s.port.bytes ∧
      (s.stuckSwitch).port.lastByte = s.port.lastByte ∧ (s.stuckSwitch).port.reply = s.port.reply ∧
      (s.stuckSwitch).port.replyTick = s.port.replyTick ∧ (s.stuckSwitch).port.params = s.port.params ∧
      (s.stuckSwitch).port.planTag = s.port.planTag ∧ (s.stuckSwitch).port.startTime = s.port.startTime ∧
      (s.stuckSwitch).port.errors = s.port.errors := by
  unfold State.stuckSwitch; try dsimp only
  (repeat' split) <;> simp

@[simp] theorem State.removeAged_frame (s : State) :
    (s.removeAged).timer = s.timer ∧ (s.removeAged).align = s.align ∧ (s.removeAged).acq = s.acq ∧
      (s.removeAged).drive = s.drive ∧ (s.removeAged).reg = s.reg ∧ (s.removeAged).link = s.link ∧
      (s.removeAged).survey = s.survey ∧ (s.removeAged).records = s.records ∧ (s.removeAged).port = s.port ∧
      (s.removeAged).lines = s.lines ∧ (s.removeAged).draws = s.draws ∧ (s.removeAged).pending = s.pending := by
  unfold State.removeAged; try dsimp only
  (repeat' split) <;> simp

@[simp] theorem State.reduceOffsets_frame (s : State) (c : Int) :
    (s.reduceOffsets c).timer = s.timer ∧ (s.reduceOffsets c).align = s.align ∧ (s.reduceOffsets c).acq = s.acq ∧
      (s.reduceOffsets c).drive = s.drive ∧ (s.reduceOffsets c).reg = s.reg ∧ (s.reduceOffsets c).link = s.link ∧
      (s.reduceOffsets c).survey = s.survey ∧ (s.reduceOffsets c).records = s.records ∧
      (s.reduceOffsets c).port = s.port ∧ (s.reduceOffsets c).lines = s.lines ∧
      (s.reduceOffsets c).draws = s.draws ∧ (s.reduceOffsets c).pending = s.pending := by
  unfold State.reduceOffsets; try dsimp only
  (repeat' split) <;> simp

@[simp] theorem State.handCode_frame (s : State) :
    (s.handCode).timer = s.timer ∧ (s.handCode).align = s.align ∧ (s.handCode).acq = s.acq ∧
      (s.handCode).reg = s.reg ∧ (s.handCode).link = s.link ∧ (s.handCode).peers = s.peers ∧
      (s.handCode).survey = s.survey ∧ (s.handCode).records = s.records ∧ (s.handCode).port = s.port ∧
      (s.handCode).lines = s.lines ∧ (s.handCode).draws = s.draws ∧ (s.handCode).pending = s.pending := by
  unfold State.handCode; try dsimp only
  (repeat' split) <;> simp

@[simp] theorem State.regulate_frame (s : State) (r : Reduction) :
    (s.regulate r).timer = s.timer ∧ (s.regulate r).align = s.align ∧ (s.regulate r).acq = s.acq ∧
      (s.regulate r).link = s.link ∧ (s.regulate r).peers = s.peers ∧ (s.regulate r).survey = s.survey ∧
      (s.regulate r).lines = s.lines ∧ (s.regulate r).draws = s.draws ∧ (s.regulate r).pending = s.pending ∧
      (s.regulate r).port.part = s.port.part ∧ (s.regulate r).port.state = s.port.state ∧
      (s.regulate r).port.length = s.port.length ∧ (s.regulate r).port.bytes = s.port.bytes ∧
      (s.regulate r).port.lastByte = s.port.lastByte ∧ (s.regulate r).port.reply = s.port.reply ∧
      (s.regulate r).port.replyTick = s.port.replyTick ∧ (s.regulate r).port.params = s.port.params ∧
      (s.regulate r).port.planTag = s.port.planTag ∧ (s.regulate r).port.startTime = s.port.startTime ∧
      (s.regulate r).port.errors = s.port.errors := by
  unfold State.regulate; try dsimp only
  (repeat' split) <;> simp

@[simp] theorem State.noteDrive_frame (s : State) :
    (s.noteDrive).timer = s.timer ∧ (s.noteDrive).align = s.align ∧ (s.noteDrive).acq = s.acq ∧
      (s.noteDrive).drive = s.drive ∧ (s.noteDrive).link = s.link ∧ (s.noteDrive).peers = s.peers ∧
      (s.noteDrive).survey = s.survey ∧ (s.noteDrive).records = s.records ∧ (s.noteDrive).port = s.port ∧
      (s.noteDrive).lines = s.lines ∧ (s.noteDrive).draws = s.draws ∧ (s.noteDrive).pending = s.pending := by
  unfold State.noteDrive; try dsimp only
  (repeat' split) <;> simp

@[simp] theorem State.holdForSurvey_frame (s : State) :
    (s.holdForSurvey).timer = s.timer ∧ (s.holdForSurvey).align = s.align ∧ (s.holdForSurvey).acq = s.acq ∧
      (s.holdForSurvey).drive = s.drive ∧ (s.holdForSurvey).link = s.link ∧ (s.holdForSurvey).peers = s.peers ∧
      (s.holdForSurvey).survey = s.survey ∧ (s.holdForSurvey).records = s.records ∧
      (s.holdForSurvey).port = s.port ∧ (s.holdForSurvey).lines = s.lines ∧ (s.holdForSurvey).draws = s.draws ∧
      (s.holdForSurvey).pending = s.pending := by
  unfold State.holdForSurvey; try dsimp only
  (repeat' split) <;> simp

@[simp] theorem State.surveyReduction_frame (s : State) (r : Reduction) :
    (s.surveyReduction r).timer = s.timer ∧ (s.surveyReduction r).align = s.align ∧
      (s.surveyReduction r).acq = s.acq ∧ (s.surveyReduction r).drive = s.drive ∧
      (s.surveyReduction r).reg = s.reg ∧ (s.surveyReduction r).link = s.link ∧
      (s.surveyReduction r).peers = s.peers ∧ (s.surveyReduction r).survey = s.survey ∧
      (s.surveyReduction r).lines = s.lines ∧ (s.surveyReduction r).draws = s.draws ∧
      (s.surveyReduction r).pending = s.pending ∧ (s.surveyReduction r).port.part = s.port.part ∧
      (s.surveyReduction r).port.state = s.port.state ∧ (s.surveyReduction r).port.length = s.port.length ∧
      (s.surveyReduction r).port.bytes = s.port.bytes ∧ (s.surveyReduction r).port.lastByte = s.port.lastByte ∧
      (s.surveyReduction r).port.reply = s.port.reply ∧ (s.surveyReduction r).port.replyTick = s.port.replyTick ∧
      (s.surveyReduction r).port.params = s.port.params ∧ (s.surveyReduction r).port.planTag = s.port.planTag ∧
      (s.surveyReduction r).port.startTime = s.port.startTime ∧
      (s.surveyReduction r).port.errors = s.port.errors := by
  unfold State.surveyReduction; try dsimp only
  (repeat' split) <;> simp

@[simp] theorem State.handOver_frame (s : State) (r : Reduction) :
    (s.handOver r).timer = s.timer ∧ (s.handOver r).align = s.align ∧ (s.handOver r).acq = s.acq ∧
      (s.handOver r).link = s.link ∧ (s.handOver r).peers = s.peers ∧ (s.handOver r).survey = s.survey ∧
      (s.handOver r).lines = s.lines ∧ (s.handOver r).draws = s.draws ∧ (s.handOver r).pending = s.pending ∧
      (s.handOver r).port.part = s.port.part ∧ (s.handOver r).port.state = s.port.state ∧
      (s.handOver r).port.length = s.port.length ∧ (s.handOver r).port.bytes = s.port.bytes ∧
      (s.handOver r).port.lastByte = s.port.lastByte ∧ (s.handOver r).port.reply = s.port.reply ∧
      (s.handOver r).port.replyTick = s.port.replyTick ∧ (s.handOver r).port.params = s.port.params ∧
      (s.handOver r).port.planTag = s.port.planTag ∧ (s.handOver r).port.startTime = s.port.startTime ∧
      (s.handOver r).port.errors = s.port.errors := by
  unfold State.handOver; try dsimp only
  (repeat' split) <;> simp

@[simp] theorem State.drawn_frame (s : State) :
    (s.drawn).timer = s.timer ∧ (s.drawn).align = s.align ∧ (s.drawn).acq = s.acq ∧ (s.drawn).drive = s.drive ∧
      (s.drawn).reg = s.reg ∧ (s.drawn).link = s.link ∧ (s.drawn).peers = s.peers ∧ (s.drawn).survey = s.survey ∧
      (s.drawn).records = s.records ∧ (s.drawn).port = s.port ∧ (s.drawn).lines = s.lines ∧
      (s.drawn).pending = s.pending := by
  unfold State.drawn; try dsimp only
  (repeat' split) <;> simp

@[simp] theorem State.beginSlot_frame (s : State) :
    (s.beginSlot).timer = s.timer ∧ (s.beginSlot).align = s.align ∧ (s.beginSlot).drive = s.drive ∧
      (s.beginSlot).reg = s.reg ∧ (s.beginSlot).link = s.link ∧ (s.beginSlot).peers = s.peers ∧
      (s.beginSlot).survey = s.survey ∧ (s.beginSlot).records = s.records ∧ (s.beginSlot).port = s.port ∧
      (s.beginSlot).lines = s.lines ∧ (s.beginSlot).draws = s.draws ∧ (s.beginSlot).pending = s.pending := by
  unfold State.beginSlot; try dsimp only
  (repeat' split) <;> simp

@[simp] theorem State.windowChanged_frame (s : State) :
    (s.windowChanged).timer = s.timer ∧ (s.windowChanged).align = s.align ∧ (s.windowChanged).drive = s.drive ∧
      (s.windowChanged).reg = s.reg ∧ (s.windowChanged).link = s.link ∧ (s.windowChanged).peers = s.peers ∧
      (s.windowChanged).survey = s.survey ∧ (s.windowChanged).records = s.records ∧
      (s.windowChanged).port = s.port ∧ (s.windowChanged).lines = s.lines ∧ (s.windowChanged).draws = s.draws ∧
      (s.windowChanged).pending = s.pending := by
  unfold State.windowChanged; try dsimp only
  (repeat' split) <;> simp

@[simp] theorem State.deliver_frame (s : State) (c : Conversion) :
    (s.deliver c).timer = s.timer ∧ (s.deliver c).align = s.align ∧ (s.deliver c).reg = s.reg ∧
      (s.deliver c).link = s.link ∧ (s.deliver c).peers = s.peers ∧ (s.deliver c).survey = s.survey ∧
      (s.deliver c).records = s.records ∧ (s.deliver c).lines = s.lines ∧ (s.deliver c).draws = s.draws ∧
      (s.deliver c).pending = s.pending ∧ (s.deliver c).port.part = s.port.part ∧
      (s.deliver c).port.state = s.port.state ∧ (s.deliver c).port.length = s.port.length ∧
      (s.deliver c).port.bytes = s.port.bytes ∧ (s.deliver c).port.lastByte = s.port.lastByte ∧
      (s.deliver c).port.reply = s.port.reply ∧ (s.deliver c).port.replyTick = s.port.replyTick ∧
      (s.deliver c).port.params = s.port.params ∧ (s.deliver c).port.planTag = s.port.planTag ∧
      (s.deliver c).port.startTime = s.port.startTime ∧ (s.deliver c).port.errors = s.port.errors := by
  unfold State.deliver; try dsimp only
  (repeat' split) <;> simp

@[simp] theorem State.deliverPipe_frame (s : State) :
    (s.deliverPipe).timer = s.timer ∧ (s.deliverPipe).align = s.align ∧ (s.deliverPipe).reg = s.reg ∧
      (s.deliverPipe).link = s.link ∧ (s.deliverPipe).peers = s.peers ∧ (s.deliverPipe).survey = s.survey ∧
      (s.deliverPipe).records = s.records ∧ (s.deliverPipe).lines = s.lines ∧ (s.deliverPipe).draws = s.draws ∧
      (s.deliverPipe).pending = s.pending ∧ (s.deliverPipe).port.part = s.port.part ∧
      (s.deliverPipe).port.state = s.port.state ∧ (s.deliverPipe).port.length = s.port.length ∧
      (s.deliverPipe).port.bytes = s.port.bytes ∧ (s.deliverPipe).port.lastByte = s.port.lastByte ∧
      (s.deliverPipe).port.reply = s.port.reply ∧ (s.deliverPipe).port.replyTick = s.port.replyTick ∧
      (s.deliverPipe).port.params = s.port.params ∧ (s.deliverPipe).port.planTag = s.port.planTag ∧
      (s.deliverPipe).port.startTime = s.port.startTime ∧ (s.deliverPipe).port.errors = s.port.errors := by
  unfold State.deliverPipe; try dsimp only
  (repeat' split) <;> simp

@[simp] theorem State.completeOff_frame (s : State) (w : PairWork) :
    (s.completeOff w).timer = s.timer ∧ (s.completeOff w).align = s.align ∧ (s.completeOff w).link = s.link ∧
      (s.completeOff w).peers = s.peers ∧ (s.completeOff w).survey = s.survey ∧ (s.completeOff w).lines = s.lines ∧
      (s.completeOff w).draws = s.draws ∧ (s.completeOff w).pending = s.pending ∧
      (s.completeOff w).port.part = s.port.part ∧ (s.completeOff w).port.state = s.port.state ∧
      (s.completeOff w).port.length = s.port.length ∧ (s.completeOff w).port.bytes = s.port.bytes ∧
      (s.completeOff w).port.lastByte = s.port.lastByte ∧ (s.completeOff w).port.reply = s.port.reply ∧
      (s.completeOff w).port.replyTick = s.port.replyTick ∧ (s.completeOff w).port.params = s.port.params ∧
      (s.completeOff w).port.planTag = s.port.planTag ∧ (s.completeOff w).port.startTime = s.port.startTime ∧
      (s.completeOff w).port.errors = s.port.errors := by
  unfold State.completeOff; try dsimp only
  (repeat' split) <;> simp

@[simp] theorem State.checkOff_frame (s : State) (t : Tag) :
    (s.checkOff t).timer = s.timer ∧ (s.checkOff t).align = s.align ∧ (s.checkOff t).link = s.link ∧
      (s.checkOff t).peers = s.peers ∧ (s.checkOff t).survey = s.survey ∧ (s.checkOff t).lines = s.lines ∧
      (s.checkOff t).draws = s.draws ∧ (s.checkOff t).pending = s.pending ∧ (s.checkOff t).port.part = s.port.part ∧
      (s.checkOff t).port.state = s.port.state ∧ (s.checkOff t).port.length = s.port.length ∧
      (s.checkOff t).port.bytes = s.port.bytes ∧ (s.checkOff t).port.lastByte = s.port.lastByte ∧
      (s.checkOff t).port.reply = s.port.reply ∧ (s.checkOff t).port.replyTick = s.port.replyTick ∧
      (s.checkOff t).port.params = s.port.params ∧ (s.checkOff t).port.planTag = s.port.planTag ∧
      (s.checkOff t).port.startTime = s.port.startTime ∧ (s.checkOff t).port.errors = s.port.errors := by
  unfold State.checkOff; try dsimp only
  (repeat' split) <;> simp

@[simp] theorem State.completions_frame (s : State) (t : Tag) :
    (s.completions t).timer = s.timer ∧ (s.completions t).align = s.align ∧ (s.completions t).link = s.link ∧
      (s.completions t).peers = s.peers ∧ (s.completions t).survey = s.survey ∧ (s.completions t).lines = s.lines ∧
      (s.completions t).draws = s.draws ∧ (s.completions t).pending = s.pending ∧
      (s.completions t).port.part = s.port.part ∧ (s.completions t).port.state = s.port.state ∧
      (s.completions t).port.length = s.port.length ∧ (s.completions t).port.bytes = s.port.bytes ∧
      (s.completions t).port.lastByte = s.port.lastByte ∧ (s.completions t).port.reply = s.port.reply ∧
      (s.completions t).port.replyTick = s.port.replyTick ∧ (s.completions t).port.params = s.port.params ∧
      (s.completions t).port.planTag = s.port.planTag ∧ (s.completions t).port.startTime = s.port.startTime ∧
      (s.completions t).port.errors = s.port.errors := by
  unfold State.completions; try dsimp only
  (repeat' split) <;> simp

@[simp] theorem State.deliverAndComplete_frame (s : State) (t : Tag) :
    (s.deliverAndComplete t).timer = s.timer ∧ (s.deliverAndComplete t).align = s.align ∧
      (s.deliverAndComplete t).link = s.link ∧ (s.deliverAndComplete t).peers = s.peers ∧
      (s.deliverAndComplete t).survey = s.survey ∧ (s.deliverAndComplete t).lines = s.lines ∧
      (s.deliverAndComplete t).pending = s.pending ∧ (s.deliverAndComplete t).port.part = s.port.part ∧
      (s.deliverAndComplete t).port.state = s.port.state ∧ (s.deliverAndComplete t).port.length = s.port.length ∧
      (s.deliverAndComplete t).port.bytes = s.port.bytes ∧
      (s.deliverAndComplete t).port.lastByte = s.port.lastByte ∧
      (s.deliverAndComplete t).port.reply = s.port.reply ∧
      (s.deliverAndComplete t).port.replyTick = s.port.replyTick ∧
      (s.deliverAndComplete t).port.params = s.port.params ∧
      (s.deliverAndComplete t).port.planTag = s.port.planTag ∧
      (s.deliverAndComplete t).port.startTime = s.port.startTime ∧
      (s.deliverAndComplete t).port.errors = s.port.errors := by
  unfold State.deliverAndComplete; try dsimp only
  (repeat' split) <;> simp

@[simp] theorem State.endSlot_frame (s : State) (code : Int) :
    (s.endSlot code).timer = s.timer ∧ (s.endSlot code).align = s.align ∧ (s.endSlot code).link = s.link ∧
      (s.endSlot code).peers = s.peers ∧ (s.endSlot code).survey = s.survey ∧ (s.endSlot code).lines = s.lines ∧
      (s.endSlot code).pending = s.pending ∧ (s.endSlot code).port.part = s.port.part ∧
      (s.endSlot code).port.state = s.port.state ∧ (s.endSlot code).port.length = s.port.length ∧
      (s.endSlot code).port.bytes = s.port.bytes ∧ (s.endSlot code).port.lastByte = s.port.lastByte ∧
      (s.endSlot code).port.reply = s.port.reply ∧ (s.endSlot code).port.replyTick = s.port.replyTick ∧
      (s.endSlot code).port.params = s.port.params ∧ (s.endSlot code).port.planTag = s.port.planTag ∧
      (s.endSlot code).port.startTime = s.port.startTime ∧ (s.endSlot code).port.errors = s.port.errors := by
  unfold State.endSlot; try dsimp only
  (repeat' split) <;> simp

@[simp] theorem State.markOffStart_frame (s : State) :
    (s.markOffStart).timer = s.timer ∧ (s.markOffStart).align = s.align ∧ (s.markOffStart).drive = s.drive ∧
      (s.markOffStart).reg = s.reg ∧ (s.markOffStart).link = s.link ∧ (s.markOffStart).peers = s.peers ∧
      (s.markOffStart).survey = s.survey ∧ (s.markOffStart).records = s.records ∧ (s.markOffStart).port = s.port ∧
      (s.markOffStart).lines = s.lines ∧ (s.markOffStart).draws = s.draws ∧ (s.markOffStart).pending = s.pending := by
  unfold State.markOffStart; try dsimp only
  (repeat' split) <;> simp

@[simp] theorem State.abandonWork_frame (s : State) :
    (s.abandonWork).timer = s.timer ∧ (s.abandonWork).align = s.align ∧ (s.abandonWork).link = s.link ∧
      (s.abandonWork).peers = s.peers ∧ (s.abandonWork).survey = s.survey ∧ (s.abandonWork).lines = s.lines ∧
      (s.abandonWork).draws = s.draws ∧ (s.abandonWork).pending = s.pending ∧
      (s.abandonWork).port.part = s.port.part ∧ (s.abandonWork).port.state = s.port.state ∧
      (s.abandonWork).port.length = s.port.length ∧ (s.abandonWork).port.bytes = s.port.bytes ∧
      (s.abandonWork).port.lastByte = s.port.lastByte ∧ (s.abandonWork).port.reply = s.port.reply ∧
      (s.abandonWork).port.replyTick = s.port.replyTick ∧ (s.abandonWork).port.params = s.port.params ∧
      (s.abandonWork).port.planTag = s.port.planTag ∧ (s.abandonWork).port.startTime = s.port.startTime ∧
      (s.abandonWork).port.errors = s.port.errors := by
  unfold State.abandonWork; try dsimp only
  (repeat' split) <;> simp

@[simp] theorem State.startConverter_frame (s : State) :
    (s.startConverter).timer = s.timer ∧ (s.startConverter).align = s.align ∧ (s.startConverter).drive = s.drive ∧
      (s.startConverter).reg = s.reg ∧ (s.startConverter).link = s.link ∧ (s.startConverter).peers = s.peers ∧
      (s.startConverter).survey = s.survey ∧ (s.startConverter).records = s.records ∧
      (s.startConverter).port = s.port ∧ (s.startConverter).lines = s.lines ∧ (s.startConverter).draws = s.draws ∧
      (s.startConverter).pending = s.pending := by
  unfold State.startConverter; try dsimp only
  (repeat' split) <;> simp

@[simp] theorem State.setPlan_frame (s : State) (p : Plan) :
    (s.setPlan p).align = s.align ∧ (s.setPlan p).acq = s.acq ∧ (s.setPlan p).drive = s.drive ∧
      (s.setPlan p).link = s.link ∧ (s.setPlan p).peers = s.peers ∧ (s.setPlan p).survey = s.survey ∧
      (s.setPlan p).records = s.records ∧ (s.setPlan p).port = s.port ∧ (s.setPlan p).lines = s.lines ∧
      (s.setPlan p).draws = s.draws ∧ (s.setPlan p).pending = s.pending ∧
      (s.setPlan p).timer.lineTime = s.timer.lineTime ∧ (s.setPlan p).timer.elapsed = s.timer.elapsed ∧
      (s.setPlan p).timer.nextEpochEnd = s.timer.nextEpochEnd ∧ (s.setPlan p).timer.tally = s.timer.tally ∧
      (s.setPlan p).timer.txPoint = s.timer.txPoint ∧ (s.setPlan p).timer.pair = s.timer.pair ∧
      (s.setPlan p).timer.window = s.timer.window ∧ (s.setPlan p).timer.markLow = s.timer.markLow ∧
      (s.setPlan p).timer.markStart = s.timer.markStart ∧ (s.setPlan p).timer.counted = s.timer.counted ∧
      (s.setPlan p).timer.opened = s.timer.opened ∧ (s.setPlan p).timer.epochWork = s.timer.epochWork := by
  unfold State.setPlan; try dsimp only
  (repeat' split) <;> simp

@[simp] theorem State.settleSurvey_frame (s : State) (m : Move) :
    (s.settleSurvey m).align = s.align ∧ (s.settleSurvey m).acq = s.acq ∧ (s.settleSurvey m).drive = s.drive ∧
      (s.settleSurvey m).link = s.link ∧ (s.settleSurvey m).peers = s.peers ∧
      (s.settleSurvey m).records = s.records ∧ (s.settleSurvey m).lines = s.lines ∧
      (s.settleSurvey m).draws = s.draws ∧ (s.settleSurvey m).pending = s.pending ∧
      (s.settleSurvey m).port.part = s.port.part ∧ (s.settleSurvey m).port.state = s.port.state ∧
      (s.settleSurvey m).port.length = s.port.length ∧ (s.settleSurvey m).port.bytes = s.port.bytes ∧
      (s.settleSurvey m).port.lastByte = s.port.lastByte ∧ (s.settleSurvey m).port.reply = s.port.reply ∧
      (s.settleSurvey m).port.replyTick = s.port.replyTick ∧ (s.settleSurvey m).port.params = s.port.params ∧
      (s.settleSurvey m).port.planTag = s.port.planTag ∧ (s.settleSurvey m).port.startTime = s.port.startTime ∧
      (s.settleSurvey m).port.errors = s.port.errors ∧ (s.settleSurvey m).timer.lineTime = s.timer.lineTime ∧
      (s.settleSurvey m).timer.elapsed = s.timer.elapsed ∧
      (s.settleSurvey m).timer.nextEpochEnd = s.timer.nextEpochEnd ∧
      (s.settleSurvey m).timer.tally = s.timer.tally ∧ (s.settleSurvey m).timer.txPoint = s.timer.txPoint ∧
      (s.settleSurvey m).timer.pair = s.timer.pair ∧ (s.settleSurvey m).timer.window = s.timer.window ∧
      (s.settleSurvey m).timer.markLow = s.timer.markLow ∧ (s.settleSurvey m).timer.markStart = s.timer.markStart ∧
      (s.settleSurvey m).timer.counted = s.timer.counted ∧ (s.settleSurvey m).timer.opened = s.timer.opened ∧
      (s.settleSurvey m).timer.epochWork = s.timer.epochWork := by
  unfold State.settleSurvey; try dsimp only
  (repeat' split) <;> simp

@[simp] theorem State.acceptSurvey_frame (s : State) (p : SurveyParams) (a : SurveyArgs) :
    (s.acceptSurvey p a).timer = s.timer ∧ (s.acceptSurvey p a).align = s.align ∧ (s.acceptSurvey p a).acq = s.acq ∧
      (s.acceptSurvey p a).drive = s.drive ∧ (s.acceptSurvey p a).reg = s.reg ∧ (s.acceptSurvey p a).link = s.link ∧
      (s.acceptSurvey p a).peers = s.peers ∧ (s.acceptSurvey p a).records = s.records ∧
      (s.acceptSurvey p a).lines = s.lines ∧ (s.acceptSurvey p a).draws = s.draws ∧
      (s.acceptSurvey p a).pending = s.pending ∧ (s.acceptSurvey p a).port.part = s.port.part ∧
      (s.acceptSurvey p a).port.state = s.port.state ∧ (s.acceptSurvey p a).port.length = s.port.length ∧
      (s.acceptSurvey p a).port.bytes = s.port.bytes ∧ (s.acceptSurvey p a).port.lastByte = s.port.lastByte ∧
      (s.acceptSurvey p a).port.reply = s.port.reply ∧ (s.acceptSurvey p a).port.replyTick = s.port.replyTick ∧
      (s.acceptSurvey p a).port.params = s.port.params ∧ (s.acceptSurvey p a).port.planTag = s.port.planTag ∧
      (s.acceptSurvey p a).port.startTime = s.port.startTime ∧ (s.acceptSurvey p a).port.errors = s.port.errors := by
  unfold State.acceptSurvey; try dsimp only
  (repeat' split) <;> simp

@[simp] theorem State.judgeStart_frame (s : State) (n : Notice) (p : SurveyParams) :
    (s.judgeStart n p).align = s.align ∧ (s.judgeStart n p).acq = s.acq ∧ (s.judgeStart n p).drive = s.drive ∧
      (s.judgeStart n p).link = s.link ∧ (s.judgeStart n p).peers = s.peers ∧
      (s.judgeStart n p).records = s.records ∧ (s.judgeStart n p).lines = s.lines ∧
      (s.judgeStart n p).pending = s.pending ∧ (s.judgeStart n p).port.part = s.port.part ∧
      (s.judgeStart n p).port.state = s.port.state ∧ (s.judgeStart n p).port.length = s.port.length ∧
      (s.judgeStart n p).port.bytes = s.port.bytes ∧ (s.judgeStart n p).port.lastByte = s.port.lastByte ∧
      (s.judgeStart n p).port.reply = s.port.reply ∧ (s.judgeStart n p).port.replyTick = s.port.replyTick ∧
      (s.judgeStart n p).port.params = s.port.params ∧ (s.judgeStart n p).port.planTag = s.port.planTag ∧
      (s.judgeStart n p).port.startTime = s.port.startTime ∧ (s.judgeStart n p).port.errors = s.port.errors ∧
      (s.judgeStart n p).timer.lineTime = s.timer.lineTime ∧ (s.judgeStart n p).timer.elapsed = s.timer.elapsed ∧
      (s.judgeStart n p).timer.nextEpochEnd = s.timer.nextEpochEnd ∧
      (s.judgeStart n p).timer.tally = s.timer.tally ∧ (s.judgeStart n p).timer.txPoint = s.timer.txPoint ∧
      (s.judgeStart n p).timer.pair = s.timer.pair ∧ (s.judgeStart n p).timer.window = s.timer.window ∧
      (s.judgeStart n p).timer.markLow = s.timer.markLow ∧ (s.judgeStart n p).timer.markStart = s.timer.markStart ∧
      (s.judgeStart n p).timer.counted = s.timer.counted ∧ (s.judgeStart n p).timer.opened = s.timer.opened ∧
      (s.judgeStart n p).timer.epochWork = s.timer.epochWork := by
  unfold State.judgeStart SurveyEntry.relayStart; try dsimp only
  (repeat' split) <;> simp

@[simp] theorem State.takeStart_frame (s : State) (n : Notice) (p : SurveyParams) :
    (s.takeStart n p).align = s.align ∧ (s.takeStart n p).acq = s.acq ∧ (s.takeStart n p).drive = s.drive ∧
      (s.takeStart n p).link = s.link ∧ (s.takeStart n p).peers = s.peers ∧ (s.takeStart n p).records = s.records ∧
      (s.takeStart n p).lines = s.lines ∧ (s.takeStart n p).pending = s.pending ∧
      (s.takeStart n p).port.part = s.port.part ∧ (s.takeStart n p).port.state = s.port.state ∧
      (s.takeStart n p).port.length = s.port.length ∧ (s.takeStart n p).port.bytes = s.port.bytes ∧
      (s.takeStart n p).port.lastByte = s.port.lastByte ∧ (s.takeStart n p).port.reply = s.port.reply ∧
      (s.takeStart n p).port.replyTick = s.port.replyTick ∧ (s.takeStart n p).port.params = s.port.params ∧
      (s.takeStart n p).port.planTag = s.port.planTag ∧ (s.takeStart n p).port.startTime = s.port.startTime ∧
      (s.takeStart n p).port.errors = s.port.errors ∧ (s.takeStart n p).timer.lineTime = s.timer.lineTime ∧
      (s.takeStart n p).timer.elapsed = s.timer.elapsed ∧
      (s.takeStart n p).timer.nextEpochEnd = s.timer.nextEpochEnd ∧ (s.takeStart n p).timer.tally = s.timer.tally ∧
      (s.takeStart n p).timer.txPoint = s.timer.txPoint ∧ (s.takeStart n p).timer.pair = s.timer.pair ∧
      (s.takeStart n p).timer.window = s.timer.window ∧ (s.takeStart n p).timer.markLow = s.timer.markLow ∧
      (s.takeStart n p).timer.markStart = s.timer.markStart ∧ (s.takeStart n p).timer.counted = s.timer.counted ∧
      (s.takeStart n p).timer.opened = s.timer.opened ∧ (s.takeStart n p).timer.epochWork = s.timer.epochWork := by
  unfold State.takeStart; try dsimp only
  (repeat' split) <;> simp

@[simp] theorem State.takeHaltNotice_frame (s : State) (n : Notice) (h : Nat) :
    (s.takeHaltNotice n h).align = s.align ∧ (s.takeHaltNotice n h).acq = s.acq ∧
      (s.takeHaltNotice n h).drive = s.drive ∧ (s.takeHaltNotice n h).link = s.link ∧
      (s.takeHaltNotice n h).peers = s.peers ∧ (s.takeHaltNotice n h).records = s.records ∧
      (s.takeHaltNotice n h).lines = s.lines ∧ (s.takeHaltNotice n h).pending = s.pending ∧
      (s.takeHaltNotice n h).port.part = s.port.part ∧ (s.takeHaltNotice n h).port.state = s.port.state ∧
      (s.takeHaltNotice n h).port.length = s.port.length ∧ (s.takeHaltNotice n h).port.bytes = s.port.bytes ∧
      (s.takeHaltNotice n h).port.lastByte = s.port.lastByte ∧ (s.takeHaltNotice n h).port.reply = s.port.reply ∧
      (s.takeHaltNotice n h).port.replyTick = s.port.replyTick ∧
      (s.takeHaltNotice n h).port.params = s.port.params ∧ (s.takeHaltNotice n h).port.planTag = s.port.planTag ∧
      (s.takeHaltNotice n h).port.startTime = s.port.startTime ∧
      (s.takeHaltNotice n h).port.errors = s.port.errors ∧
      (s.takeHaltNotice n h).timer.lineTime = s.timer.lineTime ∧
      (s.takeHaltNotice n h).timer.elapsed = s.timer.elapsed ∧
      (s.takeHaltNotice n h).timer.nextEpochEnd = s.timer.nextEpochEnd ∧
      (s.takeHaltNotice n h).timer.tally = s.timer.tally ∧ (s.takeHaltNotice n h).timer.txPoint = s.timer.txPoint ∧
      (s.takeHaltNotice n h).timer.pair = s.timer.pair ∧ (s.takeHaltNotice n h).timer.window = s.timer.window ∧
      (s.takeHaltNotice n h).timer.markLow = s.timer.markLow ∧
      (s.takeHaltNotice n h).timer.markStart = s.timer.markStart ∧
      (s.takeHaltNotice n h).timer.counted = s.timer.counted ∧
      (s.takeHaltNotice n h).timer.opened = s.timer.opened ∧
      (s.takeHaltNotice n h).timer.epochWork = s.timer.epochWork := by
  unfold State.takeHaltNotice; try dsimp only
  (repeat' split) <;> simp

@[simp] theorem State.takeNotice_frame (s : State) (n : Notice) :
    (s.takeNotice n).align = s.align ∧ (s.takeNotice n).acq = s.acq ∧ (s.takeNotice n).drive = s.drive ∧
      (s.takeNotice n).link = s.link ∧ (s.takeNotice n).peers = s.peers ∧ (s.takeNotice n).records = s.records ∧
      (s.takeNotice n).lines = s.lines ∧ (s.takeNotice n).pending = s.pending ∧
      (s.takeNotice n).port.part = s.port.part ∧ (s.takeNotice n).port.state = s.port.state ∧
      (s.takeNotice n).port.length = s.port.length ∧ (s.takeNotice n).port.bytes = s.port.bytes ∧
      (s.takeNotice n).port.lastByte = s.port.lastByte ∧ (s.takeNotice n).port.reply = s.port.reply ∧
      (s.takeNotice n).port.replyTick = s.port.replyTick ∧ (s.takeNotice n).port.params = s.port.params ∧
      (s.takeNotice n).port.planTag = s.port.planTag ∧ (s.takeNotice n).port.startTime = s.port.startTime ∧
      (s.takeNotice n).port.errors = s.port.errors ∧ (s.takeNotice n).timer.lineTime = s.timer.lineTime ∧
      (s.takeNotice n).timer.elapsed = s.timer.elapsed ∧
      (s.takeNotice n).timer.nextEpochEnd = s.timer.nextEpochEnd ∧ (s.takeNotice n).timer.tally = s.timer.tally ∧
      (s.takeNotice n).timer.txPoint = s.timer.txPoint ∧ (s.takeNotice n).timer.pair = s.timer.pair ∧
      (s.takeNotice n).timer.window = s.timer.window ∧ (s.takeNotice n).timer.markLow = s.timer.markLow ∧
      (s.takeNotice n).timer.markStart = s.timer.markStart ∧ (s.takeNotice n).timer.counted = s.timer.counted ∧
      (s.takeNotice n).timer.opened = s.timer.opened ∧ (s.takeNotice n).timer.epochWork = s.timer.epochWork := by
  unfold State.takeNotice; try dsimp only
  (repeat' split) <;> simp

@[simp] theorem State.openPair_frame (s : State) (p : Pair) :
    (s.openPair p).align = s.align ∧ (s.openPair p).drive = s.drive ∧ (s.openPair p).link = s.link ∧
      (s.openPair p).peers = s.peers ∧ (s.openPair p).survey = s.survey ∧ (s.openPair p).records = s.records ∧
      (s.openPair p).port = s.port ∧ (s.openPair p).lines = s.lines ∧ (s.openPair p).draws = s.draws ∧
      (s.openPair p).pending = s.pending ∧ (s.openPair p).timer.lineTime = s.timer.lineTime ∧
      (s.openPair p).timer.elapsed = s.timer.elapsed ∧ (s.openPair p).timer.nextEpochEnd = s.timer.nextEpochEnd ∧
      (s.openPair p).timer.tally = s.timer.tally ∧ (s.openPair p).timer.txPoint = s.timer.txPoint ∧
      (s.openPair p).timer.plan = s.timer.plan ∧ (s.openPair p).timer.markLow = s.timer.markLow ∧
      (s.openPair p).timer.markStart = s.timer.markStart ∧ (s.openPair p).timer.counted = s.timer.counted ∧
      (s.openPair p).timer.epochWork = s.timer.epochWork := by
  unfold State.openPair; try dsimp only
  (repeat' split) <;> simp

@[simp] theorem State.drawTxPointFrom_frame (s : State) (n : Nat) :
    (s.drawTxPointFrom n).align = s.align ∧ (s.drawTxPointFrom n).acq = s.acq ∧
      (s.drawTxPointFrom n).drive = s.drive ∧ (s.drawTxPointFrom n).reg = s.reg ∧
      (s.drawTxPointFrom n).link = s.link ∧ (s.drawTxPointFrom n).peers = s.peers ∧
      (s.drawTxPointFrom n).survey = s.survey ∧ (s.drawTxPointFrom n).records = s.records ∧
      (s.drawTxPointFrom n).port = s.port ∧ (s.drawTxPointFrom n).lines = s.lines ∧
      (s.drawTxPointFrom n).pending = s.pending ∧ (s.drawTxPointFrom n).timer.lineTime = s.timer.lineTime ∧
      (s.drawTxPointFrom n).timer.elapsed = s.timer.elapsed ∧
      (s.drawTxPointFrom n).timer.nextEpochEnd = s.timer.nextEpochEnd ∧
      (s.drawTxPointFrom n).timer.tally = s.timer.tally ∧ (s.drawTxPointFrom n).timer.plan = s.timer.plan ∧
      (s.drawTxPointFrom n).timer.pair = s.timer.pair ∧ (s.drawTxPointFrom n).timer.window = s.timer.window ∧
      (s.drawTxPointFrom n).timer.markLow = s.timer.markLow ∧
      (s.drawTxPointFrom n).timer.markStart = s.timer.markStart ∧
      (s.drawTxPointFrom n).timer.counted = s.timer.counted ∧ (s.drawTxPointFrom n).timer.opened = s.timer.opened ∧
      (s.drawTxPointFrom n).timer.epochWork = s.timer.epochWork := by
  unfold State.drawTxPointFrom; try dsimp only
  (repeat' split) <;> simp

@[simp] theorem State.drawTxPoint_frame (s : State) :
    (s.drawTxPoint).align = s.align ∧ (s.drawTxPoint).acq = s.acq ∧ (s.drawTxPoint).drive = s.drive ∧
      (s.drawTxPoint).reg = s.reg ∧ (s.drawTxPoint).link = s.link ∧ (s.drawTxPoint).peers = s.peers ∧
      (s.drawTxPoint).survey = s.survey ∧ (s.drawTxPoint).records = s.records ∧ (s.drawTxPoint).port = s.port ∧
      (s.drawTxPoint).lines = s.lines ∧ (s.drawTxPoint).pending = s.pending ∧
      (s.drawTxPoint).timer.lineTime = s.timer.lineTime ∧ (s.drawTxPoint).timer.elapsed = s.timer.elapsed ∧
      (s.drawTxPoint).timer.nextEpochEnd = s.timer.nextEpochEnd ∧ (s.drawTxPoint).timer.tally = s.timer.tally ∧
      (s.drawTxPoint).timer.plan = s.timer.plan ∧ (s.drawTxPoint).timer.pair = s.timer.pair ∧
      (s.drawTxPoint).timer.window = s.timer.window ∧ (s.drawTxPoint).timer.markLow = s.timer.markLow ∧
      (s.drawTxPoint).timer.markStart = s.timer.markStart ∧ (s.drawTxPoint).timer.counted = s.timer.counted ∧
      (s.drawTxPoint).timer.opened = s.timer.opened ∧ (s.drawTxPoint).timer.epochWork = s.timer.epochWork := by
  unfold State.drawTxPoint; try dsimp only
  (repeat' split) <;> simp

@[simp] theorem State.shiftTime_frame (s : State) (c : Int) :
    (s.shiftTime c).align = s.align ∧ (s.shiftTime c).acq = s.acq ∧ (s.shiftTime c).drive = s.drive ∧
      (s.shiftTime c).reg = s.reg ∧ (s.shiftTime c).survey = s.survey ∧ (s.shiftTime c).records = s.records ∧
      (s.shiftTime c).port = s.port ∧ (s.shiftTime c).lines = s.lines ∧ (s.shiftTime c).draws = s.draws ∧
      (s.shiftTime c).pending = s.pending ∧ (s.shiftTime c).timer.elapsed = s.timer.elapsed ∧
      (s.shiftTime c).timer.nextEpochEnd = s.timer.nextEpochEnd ∧ (s.shiftTime c).timer.tally = s.timer.tally ∧
      (s.shiftTime c).timer.txPoint = s.timer.txPoint ∧ (s.shiftTime c).timer.plan = s.timer.plan ∧
      (s.shiftTime c).timer.pair = s.timer.pair ∧ (s.shiftTime c).timer.window = s.timer.window ∧
      (s.shiftTime c).timer.markLow = s.timer.markLow ∧ (s.shiftTime c).timer.markStart = s.timer.markStart ∧
      (s.shiftTime c).timer.opened = s.timer.opened ∧ (s.shiftTime c).timer.epochWork = s.timer.epochWork := by
  unfold State.shiftTime; try dsimp only
  (repeat' split) <;> simp

@[simp] theorem State.keepEpochEnd_frame (s : State) :
    (s.keepEpochEnd).align = s.align ∧ (s.keepEpochEnd).acq = s.acq ∧ (s.keepEpochEnd).drive = s.drive ∧
      (s.keepEpochEnd).reg = s.reg ∧ (s.keepEpochEnd).link = s.link ∧ (s.keepEpochEnd).peers = s.peers ∧
      (s.keepEpochEnd).survey = s.survey ∧ (s.keepEpochEnd).records = s.records ∧ (s.keepEpochEnd).port = s.port ∧
      (s.keepEpochEnd).lines = s.lines ∧ (s.keepEpochEnd).draws = s.draws ∧ (s.keepEpochEnd).pending = s.pending ∧
      (s.keepEpochEnd).timer.lineTime = s.timer.lineTime ∧ (s.keepEpochEnd).timer.elapsed = s.timer.elapsed ∧
      (s.keepEpochEnd).timer.tally = s.timer.tally ∧ (s.keepEpochEnd).timer.txPoint = s.timer.txPoint ∧
      (s.keepEpochEnd).timer.plan = s.timer.plan ∧ (s.keepEpochEnd).timer.pair = s.timer.pair ∧
      (s.keepEpochEnd).timer.window = s.timer.window ∧ (s.keepEpochEnd).timer.markLow = s.timer.markLow ∧
      (s.keepEpochEnd).timer.markStart = s.timer.markStart ∧ (s.keepEpochEnd).timer.counted = s.timer.counted ∧
      (s.keepEpochEnd).timer.opened = s.timer.opened ∧ (s.keepEpochEnd).timer.epochWork = s.timer.epochWork := by
  unfold State.keepEpochEnd; try dsimp only
  (repeat' split) <;> simp

@[simp] theorem State.openAtCorrection_frame (s : State) (b : Timer) :
    (s.openAtCorrection b).align = s.align ∧ (s.openAtCorrection b).drive = s.drive ∧
      (s.openAtCorrection b).link = s.link ∧ (s.openAtCorrection b).peers = s.peers ∧
      (s.openAtCorrection b).survey = s.survey ∧ (s.openAtCorrection b).records = s.records ∧
      (s.openAtCorrection b).port = s.port ∧ (s.openAtCorrection b).lines = s.lines ∧
      (s.openAtCorrection b).draws = s.draws ∧ (s.openAtCorrection b).pending = s.pending ∧
      (s.openAtCorrection b).timer.lineTime = s.timer.lineTime ∧
      (s.openAtCorrection b).timer.elapsed = s.timer.elapsed ∧
      (s.openAtCorrection b).timer.nextEpochEnd = s.timer.nextEpochEnd ∧
      (s.openAtCorrection b).timer.tally = s.timer.tally ∧ (s.openAtCorrection b).timer.txPoint = s.timer.txPoint ∧
      (s.openAtCorrection b).timer.plan = s.timer.plan ∧ (s.openAtCorrection b).timer.markLow = s.timer.markLow ∧
      (s.openAtCorrection b).timer.markStart = s.timer.markStart ∧
      (s.openAtCorrection b).timer.counted = s.timer.counted ∧
      (s.openAtCorrection b).timer.epochWork = s.timer.epochWork := by
  unfold State.openAtCorrection; try dsimp only
  (repeat' split) <;> simp

@[simp] theorem State.applyCorrection_frame (s : State) (c : Int) :
    (s.applyCorrection c).align = s.align ∧ (s.applyCorrection c).drive = s.drive ∧
      (s.applyCorrection c).records = s.records ∧ (s.applyCorrection c).lines = s.lines ∧
      (s.applyCorrection c).draws = s.draws ∧ (s.applyCorrection c).pending = s.pending ∧
      (s.applyCorrection c).port.part = s.port.part ∧ (s.applyCorrection c).port.state = s.port.state ∧
      (s.applyCorrection c).port.length = s.port.length ∧ (s.applyCorrection c).port.bytes = s.port.bytes ∧
      (s.applyCorrection c).port.lastByte = s.port.lastByte ∧ (s.applyCorrection c).port.reply = s.port.reply ∧
      (s.applyCorrection c).port.replyTick = s.port.replyTick ∧ (s.applyCorrection c).port.params = s.port.params ∧
      (s.applyCorrection c).port.planTag = s.port.planTag ∧
      (s.applyCorrection c).port.startTime = s.port.startTime ∧ (s.applyCorrection c).port.errors = s.port.errors ∧
      (s.applyCorrection c).timer.elapsed = s.timer.elapsed ∧ (s.applyCorrection c).timer.tally = s.timer.tally ∧
      (s.applyCorrection c).timer.txPoint = s.timer.txPoint ∧
      (s.applyCorrection c).timer.markLow = s.timer.markLow ∧
      (s.applyCorrection c).timer.markStart = s.timer.markStart ∧
      (s.applyCorrection c).timer.epochWork = s.timer.epochWork := by
  unfold State.applyCorrection; try dsimp only
  (repeat' split) <;> simp

@[simp] theorem State.abandonPair_frame (s : State) :
    (s.abandonPair).align = s.align ∧ (s.abandonPair).link = s.link ∧ (s.abandonPair).peers = s.peers ∧
      (s.abandonPair).survey = s.survey ∧ (s.abandonPair).lines = s.lines ∧ (s.abandonPair).draws = s.draws ∧
      (s.abandonPair).pending = s.pending ∧ (s.abandonPair).port.part = s.port.part ∧
      (s.abandonPair).port.state = s.port.state ∧ (s.abandonPair).port.length = s.port.length ∧
      (s.abandonPair).port.bytes = s.port.bytes ∧ (s.abandonPair).port.lastByte = s.port.lastByte ∧
      (s.abandonPair).port.reply = s.port.reply ∧ (s.abandonPair).port.replyTick = s.port.replyTick ∧
      (s.abandonPair).port.params = s.port.params ∧ (s.abandonPair).port.planTag = s.port.planTag ∧
      (s.abandonPair).port.startTime = s.port.startTime ∧ (s.abandonPair).port.errors = s.port.errors ∧
      (s.abandonPair).timer.lineTime = s.timer.lineTime ∧ (s.abandonPair).timer.elapsed = s.timer.elapsed ∧
      (s.abandonPair).timer.nextEpochEnd = s.timer.nextEpochEnd ∧ (s.abandonPair).timer.tally = s.timer.tally ∧
      (s.abandonPair).timer.txPoint = s.timer.txPoint ∧ (s.abandonPair).timer.plan = s.timer.plan ∧
      (s.abandonPair).timer.markLow = s.timer.markLow ∧ (s.abandonPair).timer.markStart = s.timer.markStart ∧
      (s.abandonPair).timer.counted = s.timer.counted ∧ (s.abandonPair).timer.opened = s.timer.opened ∧
      (s.abandonPair).timer.epochWork = s.timer.epochWork := by
  unfold State.abandonPair; try dsimp only
  (repeat' split) <;> simp

@[simp] theorem State.applyStep_frame (s : State) (d : Int) :
    (s.applyStep d).align = s.align ∧ (s.applyStep d).lines = s.lines ∧ (s.applyStep d).pending = s.pending ∧
      (s.applyStep d).port.part = s.port.part ∧ (s.applyStep d).port.state = s.port.state ∧
      (s.applyStep d).port.length = s.port.length ∧ (s.applyStep d).port.bytes = s.port.bytes ∧
      (s.applyStep d).port.lastByte = s.port.lastByte ∧ (s.applyStep d).port.reply = s.port.reply ∧
      (s.applyStep d).port.replyTick = s.port.replyTick ∧ (s.applyStep d).port.params = s.port.params ∧
      (s.applyStep d).port.planTag = s.port.planTag ∧ (s.applyStep d).port.startTime = s.port.startTime ∧
      (s.applyStep d).port.errors = s.port.errors ∧ (s.applyStep d).timer.elapsed = s.timer.elapsed ∧
      (s.applyStep d).timer.tally = s.timer.tally ∧ (s.applyStep d).timer.markLow = s.timer.markLow ∧
      (s.applyStep d).timer.markStart = s.timer.markStart ∧ (s.applyStep d).timer.opened = s.timer.opened := by
  unfold State.applyStep Timer.stepEpochEnd; try dsimp only
  (repeat' split) <;> simp

@[simp] theorem State.handStep_frame (s : State) (d : Int) :
    (s.handStep d).align = s.align ∧ (s.handStep d).lines = s.lines ∧ (s.handStep d).pending = s.pending ∧
      (s.handStep d).port.part = s.port.part ∧ (s.handStep d).port.state = s.port.state ∧
      (s.handStep d).port.length = s.port.length ∧ (s.handStep d).port.bytes = s.port.bytes ∧
      (s.handStep d).port.lastByte = s.port.lastByte ∧ (s.handStep d).port.reply = s.port.reply ∧
      (s.handStep d).port.replyTick = s.port.replyTick ∧ (s.handStep d).port.params = s.port.params ∧
      (s.handStep d).port.planTag = s.port.planTag ∧ (s.handStep d).port.startTime = s.port.startTime ∧
      (s.handStep d).port.errors = s.port.errors ∧ (s.handStep d).timer.elapsed = s.timer.elapsed ∧
      (s.handStep d).timer.tally = s.timer.tally ∧ (s.handStep d).timer.markLow = s.timer.markLow ∧
      (s.handStep d).timer.markStart = s.timer.markStart ∧ (s.handStep d).timer.opened = s.timer.opened := by
  unfold State.handStep; try dsimp only
  (repeat' split) <;> simp

@[simp] theorem State.handCorrection_frame (s : State) (c : Int) :
    (s.handCorrection c).drive = s.drive ∧ (s.handCorrection c).records = s.records ∧
      (s.handCorrection c).lines = s.lines ∧ (s.handCorrection c).draws = s.draws ∧
      (s.handCorrection c).pending = s.pending ∧ (s.handCorrection c).port.part = s.port.part ∧
      (s.handCorrection c).port.state = s.port.state ∧ (s.handCorrection c).port.length = s.port.length ∧
      (s.handCorrection c).port.bytes = s.port.bytes ∧ (s.handCorrection c).port.lastByte = s.port.lastByte ∧
      (s.handCorrection c).port.reply = s.port.reply ∧ (s.handCorrection c).port.replyTick = s.port.replyTick ∧
      (s.handCorrection c).port.params = s.port.params ∧ (s.handCorrection c).port.planTag = s.port.planTag ∧
      (s.handCorrection c).port.startTime = s.port.startTime ∧ (s.handCorrection c).port.errors = s.port.errors ∧
      (s.handCorrection c).timer.elapsed = s.timer.elapsed ∧ (s.handCorrection c).timer.tally = s.timer.tally ∧
      (s.handCorrection c).timer.txPoint = s.timer.txPoint ∧ (s.handCorrection c).timer.markLow = s.timer.markLow ∧
      (s.handCorrection c).timer.markStart = s.timer.markStart ∧
      (s.handCorrection c).timer.epochWork = s.timer.epochWork := by
  unfold State.handCorrection; try dsimp only
  (repeat' split) <;> simp

@[simp] theorem State.openHere_frame (s : State) :
    (s.openHere).align = s.align ∧ (s.openHere).drive = s.drive ∧ (s.openHere).link = s.link ∧
      (s.openHere).peers = s.peers ∧ (s.openHere).survey = s.survey ∧ (s.openHere).records = s.records ∧
      (s.openHere).port = s.port ∧ (s.openHere).lines = s.lines ∧ (s.openHere).draws = s.draws ∧
      (s.openHere).pending = s.pending ∧ (s.openHere).timer.lineTime = s.timer.lineTime ∧
      (s.openHere).timer.elapsed = s.timer.elapsed ∧ (s.openHere).timer.nextEpochEnd = s.timer.nextEpochEnd ∧
      (s.openHere).timer.tally = s.timer.tally ∧ (s.openHere).timer.txPoint = s.timer.txPoint ∧
      (s.openHere).timer.plan = s.timer.plan ∧ (s.openHere).timer.markLow = s.timer.markLow ∧
      (s.openHere).timer.markStart = s.timer.markStart ∧ (s.openHere).timer.counted = s.timer.counted ∧
      (s.openHere).timer.epochWork = s.timer.epochWork := by
  unfold State.openHere; try dsimp only
  (repeat' split) <;> simp

@[simp] theorem State.beginOff_frame (s : State) :
    (s.beginOff).align = s.align ∧ (s.beginOff).reg = s.reg ∧ (s.beginOff).link = s.link ∧
      (s.beginOff).peers = s.peers ∧ (s.beginOff).survey = s.survey ∧ (s.beginOff).records = s.records ∧
      (s.beginOff).port = s.port ∧ (s.beginOff).lines = s.lines ∧ (s.beginOff).draws = s.draws ∧
      (s.beginOff).pending = s.pending ∧ (s.beginOff).timer.lineTime = s.timer.lineTime ∧
      (s.beginOff).timer.elapsed = s.timer.elapsed ∧ (s.beginOff).timer.nextEpochEnd = s.timer.nextEpochEnd ∧
      (s.beginOff).timer.tally = s.timer.tally ∧ (s.beginOff).timer.txPoint = s.timer.txPoint ∧
      (s.beginOff).timer.plan = s.timer.plan ∧ (s.beginOff).timer.pair = s.timer.pair ∧
      (s.beginOff).timer.counted = s.timer.counted ∧ (s.beginOff).timer.opened = s.timer.opened ∧
      (s.beginOff).timer.epochWork = s.timer.epochWork := by
  unfold State.beginOff Timer.markOffStart; dsimp only
  repeat' split
  all_goals simp

@[simp] theorem State.endOff_frame (s : State) :
    (s.endOff).align = s.align ∧ (s.endOff).reg = s.reg ∧ (s.endOff).link = s.link ∧ (s.endOff).peers = s.peers ∧
      (s.endOff).survey = s.survey ∧ (s.endOff).records = s.records ∧ (s.endOff).port = s.port ∧
      (s.endOff).lines = s.lines ∧ (s.endOff).draws = s.draws ∧ (s.endOff).pending = s.pending ∧
      (s.endOff).timer.lineTime = s.timer.lineTime ∧ (s.endOff).timer.elapsed = s.timer.elapsed ∧
      (s.endOff).timer.nextEpochEnd = s.timer.nextEpochEnd ∧ (s.endOff).timer.tally = s.timer.tally ∧
      (s.endOff).timer.txPoint = s.timer.txPoint ∧ (s.endOff).timer.plan = s.timer.plan ∧
      (s.endOff).timer.markLow = s.timer.markLow ∧ (s.endOff).timer.markStart = s.timer.markStart ∧
      (s.endOff).timer.counted = s.timer.counted ∧ (s.endOff).timer.opened = s.timer.opened ∧
      (s.endOff).timer.epochWork = s.timer.epochWork := by
  unfold State.endOff; try dsimp only
  (repeat' split) <;> simp

@[simp] theorem State.entryTaken_frame (s : State) (p : Peer) :
    (s.entryTaken p).lines = s.lines ∧ (s.entryTaken p).pending = s.pending ∧
      (s.entryTaken p).port.part = s.port.part ∧ (s.entryTaken p).port.state = s.port.state ∧
      (s.entryTaken p).port.length = s.port.length ∧ (s.entryTaken p).port.bytes = s.port.bytes ∧
      (s.entryTaken p).port.lastByte = s.port.lastByte ∧ (s.entryTaken p).port.reply = s.port.reply ∧
      (s.entryTaken p).port.replyTick = s.port.replyTick ∧ (s.entryTaken p).port.params = s.port.params ∧
      (s.entryTaken p).port.planTag = s.port.planTag ∧ (s.entryTaken p).port.startTime = s.port.startTime ∧
      (s.entryTaken p).port.errors = s.port.errors ∧ (s.entryTaken p).timer.elapsed = s.timer.elapsed ∧
      (s.entryTaken p).timer.tally = s.timer.tally ∧ (s.entryTaken p).timer.markLow = s.timer.markLow ∧
      (s.entryTaken p).timer.markStart = s.timer.markStart ∧ (s.entryTaken p).timer.opened = s.timer.opened := by
  unfold State.entryTaken; try dsimp only
  (repeat' split) <;> simp

@[simp] theorem State.merge_frame (s : State) :
    (s.merge).lines = s.lines ∧ (s.merge).pending = s.pending ∧ (s.merge).port.part = s.port.part ∧
      (s.merge).port.state = s.port.state ∧ (s.merge).port.length = s.port.length ∧
      (s.merge).port.bytes = s.port.bytes ∧ (s.merge).port.lastByte = s.port.lastByte ∧
      (s.merge).port.reply = s.port.reply ∧ (s.merge).port.replyTick = s.port.replyTick ∧
      (s.merge).port.params = s.port.params ∧ (s.merge).port.planTag = s.port.planTag ∧
      (s.merge).port.startTime = s.port.startTime ∧ (s.merge).port.errors = s.port.errors ∧
      (s.merge).timer.elapsed = s.timer.elapsed ∧ (s.merge).timer.tally = s.timer.tally ∧
      (s.merge).timer.markLow = s.timer.markLow ∧ (s.merge).timer.markStart = s.timer.markStart ∧
      (s.merge).timer.opened = s.timer.opened := by
  unfold State.merge; try dsimp only
  (repeat' split) <;> simp

@[simp] theorem State.loseLock_frame (s : State) :
    (s.loseLock).timer = s.timer ∧ (s.loseLock).acq = s.acq ∧ (s.loseLock).drive = s.drive ∧
      (s.loseLock).reg = s.reg ∧ (s.loseLock).link = s.link ∧ (s.loseLock).peers = s.peers ∧
      (s.loseLock).survey = s.survey ∧ (s.loseLock).records = s.records ∧ (s.loseLock).lines = s.lines ∧
      (s.loseLock).draws = s.draws ∧ (s.loseLock).pending = s.pending ∧ (s.loseLock).port.part = s.port.part ∧
      (s.loseLock).port.state = s.port.state ∧ (s.loseLock).port.length = s.port.length ∧
      (s.loseLock).port.bytes = s.port.bytes ∧ (s.loseLock).port.lastByte = s.port.lastByte ∧
      (s.loseLock).port.reply = s.port.reply ∧ (s.loseLock).port.replyTick = s.port.replyTick ∧
      (s.loseLock).port.params = s.port.params ∧ (s.loseLock).port.planTag = s.port.planTag ∧
      (s.loseLock).port.startTime = s.port.startTime ∧ (s.loseLock).port.errors = s.port.errors := by
  unfold State.loseLock; try dsimp only
  (repeat' split) <;> simp

@[simp] theorem State.trackingEpoch_frame (s : State) :
    (s.trackingEpoch).lines = s.lines ∧ (s.trackingEpoch).pending = s.pending ∧
      (s.trackingEpoch).port.part = s.port.part ∧ (s.trackingEpoch).port.state = s.port.state ∧
      (s.trackingEpoch).port.length = s.port.length ∧ (s.trackingEpoch).port.bytes = s.port.bytes ∧
      (s.trackingEpoch).port.lastByte = s.port.lastByte ∧ (s.trackingEpoch).port.reply = s.port.reply ∧
      (s.trackingEpoch).port.replyTick = s.port.replyTick ∧ (s.trackingEpoch).port.params = s.port.params ∧
      (s.trackingEpoch).port.planTag = s.port.planTag ∧ (s.trackingEpoch).port.startTime = s.port.startTime ∧
      (s.trackingEpoch).port.errors = s.port.errors ∧ (s.trackingEpoch).timer.elapsed = s.timer.elapsed ∧
      (s.trackingEpoch).timer.tally = s.timer.tally ∧ (s.trackingEpoch).timer.markLow = s.timer.markLow ∧
      (s.trackingEpoch).timer.markStart = s.timer.markStart := by
  unfold State.trackingEpoch; try dsimp only
  (repeat' split) <;> simp

@[simp] theorem State.acquireEpoch_frame (s : State) :
    (s.acquireEpoch).timer = s.timer ∧ (s.acquireEpoch).acq = s.acq ∧ (s.acquireEpoch).drive = s.drive ∧
      (s.acquireEpoch).reg = s.reg ∧ (s.acquireEpoch).link = s.link ∧ (s.acquireEpoch).peers = s.peers ∧
      (s.acquireEpoch).survey = s.survey ∧ (s.acquireEpoch).records = s.records ∧ (s.acquireEpoch).port = s.port ∧
      (s.acquireEpoch).lines = s.lines ∧ (s.acquireEpoch).draws = s.draws ∧ (s.acquireEpoch).pending = s.pending := by
  unfold State.acquireEpoch; try dsimp only
  (repeat' split) <;> simp

@[simp] theorem State.alignEpoch_frame (s : State) :
    (s.alignEpoch).lines = s.lines ∧ (s.alignEpoch).pending = s.pending ∧ (s.alignEpoch).port.part = s.port.part ∧
      (s.alignEpoch).port.state = s.port.state ∧ (s.alignEpoch).port.length = s.port.length ∧
      (s.alignEpoch).port.bytes = s.port.bytes ∧ (s.alignEpoch).port.lastByte = s.port.lastByte ∧
      (s.alignEpoch).port.reply = s.port.reply ∧ (s.alignEpoch).port.replyTick = s.port.replyTick ∧
      (s.alignEpoch).port.params = s.port.params ∧ (s.alignEpoch).port.planTag = s.port.planTag ∧
      (s.alignEpoch).port.startTime = s.port.startTime ∧ (s.alignEpoch).port.errors = s.port.errors ∧
      (s.alignEpoch).timer.elapsed = s.timer.elapsed ∧ (s.alignEpoch).timer.tally = s.timer.tally ∧
      (s.alignEpoch).timer.markLow = s.timer.markLow ∧ (s.alignEpoch).timer.markStart = s.timer.markStart := by
  unfold State.alignEpoch; try dsimp only
  (repeat' split) <;> simp

@[simp] theorem State.countEpoch_frame (s : State) :
    (s.countEpoch).align = s.align ∧ (s.countEpoch).acq = s.acq ∧ (s.countEpoch).drive = s.drive ∧
      (s.countEpoch).reg = s.reg ∧ (s.countEpoch).link = s.link ∧ (s.countEpoch).peers = s.peers ∧
      (s.countEpoch).survey = s.survey ∧ (s.countEpoch).records = s.records ∧ (s.countEpoch).port = s.port ∧
      (s.countEpoch).lines = s.lines ∧ (s.countEpoch).pending = s.pending ∧
      (s.countEpoch).timer.lineTime = s.timer.lineTime ∧ (s.countEpoch).timer.elapsed = s.timer.elapsed ∧
      (s.countEpoch).timer.plan = s.timer.plan ∧ (s.countEpoch).timer.pair = s.timer.pair ∧
      (s.countEpoch).timer.window = s.timer.window ∧ (s.countEpoch).timer.markLow = s.timer.markLow ∧
      (s.countEpoch).timer.markStart = s.timer.markStart ∧ (s.countEpoch).timer.counted = s.timer.counted ∧
      (s.countEpoch).timer.opened = s.timer.opened := by
  unfold State.countEpoch; try dsimp only
  (repeat' split) <;> simp

@[simp] theorem State.enterAnchor_frame (s : State) :
    (s.enterAnchor).lines = s.lines ∧ (s.enterAnchor).pending = s.pending ∧
      (s.enterAnchor).port.part = s.port.part ∧ (s.enterAnchor).port.state = s.port.state ∧
      (s.enterAnchor).port.length = s.port.length ∧ (s.enterAnchor).port.bytes = s.port.bytes ∧
      (s.enterAnchor).port.lastByte = s.port.lastByte ∧ (s.enterAnchor).port.reply = s.port.reply ∧
      (s.enterAnchor).port.replyTick = s.port.replyTick ∧ (s.enterAnchor).port.params = s.port.params ∧
      (s.enterAnchor).port.planTag = s.port.planTag ∧ (s.enterAnchor).port.startTime = s.port.startTime ∧
      (s.enterAnchor).port.errors = s.port.errors ∧ (s.enterAnchor).timer.elapsed = s.timer.elapsed ∧
      (s.enterAnchor).timer.tally = s.timer.tally ∧ (s.enterAnchor).timer.markLow = s.timer.markLow ∧
      (s.enterAnchor).timer.markStart = s.timer.markStart := by
  unfold State.enterAnchor; try dsimp only
  (repeat' split) <;> simp

@[simp] theorem State.anchoredPulse_frame (s : State) (w : Bool) :
    (s.anchoredPulse w).drive = s.drive ∧ (s.anchoredPulse w).records = s.records ∧
      (s.anchoredPulse w).lines = s.lines ∧ (s.anchoredPulse w).draws = s.draws ∧
      (s.anchoredPulse w).pending = s.pending ∧ (s.anchoredPulse w).port.part = s.port.part ∧
      (s.anchoredPulse w).port.state = s.port.state ∧ (s.anchoredPulse w).port.length = s.port.length ∧
      (s.anchoredPulse w).port.bytes = s.port.bytes ∧ (s.anchoredPulse w).port.lastByte = s.port.lastByte ∧
      (s.anchoredPulse w).port.reply = s.port.reply ∧ (s.anchoredPulse w).port.replyTick = s.port.replyTick ∧
      (s.anchoredPulse w).port.params = s.port.params ∧ (s.anchoredPulse w).port.planTag = s.port.planTag ∧
      (s.anchoredPulse w).port.startTime = s.port.startTime ∧ (s.anchoredPulse w).port.errors = s.port.errors ∧
      (s.anchoredPulse w).timer.elapsed = s.timer.elapsed ∧ (s.anchoredPulse w).timer.tally = s.timer.tally ∧
      (s.anchoredPulse w).timer.txPoint = s.timer.txPoint ∧ (s.anchoredPulse w).timer.markLow = s.timer.markLow ∧
      (s.anchoredPulse w).timer.markStart = s.timer.markStart ∧
      (s.anchoredPulse w).timer.epochWork = s.timer.epochWork := by
  unfold State.anchoredPulse; try dsimp only
  (repeat' split) <;> simp

@[simp] theorem State.pulse_frame (s : State) :
    (s.pulse).lines = s.lines ∧ (s.pulse).pending = s.pending ∧ (s.pulse).port.part = s.port.part ∧
      (s.pulse).port.state = s.port.state ∧ (s.pulse).port.length = s.port.length ∧
      (s.pulse).port.bytes = s.port.bytes ∧ (s.pulse).port.lastByte = s.port.lastByte ∧
      (s.pulse).port.reply = s.port.reply ∧ (s.pulse).port.replyTick = s.port.replyTick ∧
      (s.pulse).port.params = s.port.params ∧ (s.pulse).port.planTag = s.port.planTag ∧
      (s.pulse).port.startTime = s.port.startTime ∧ (s.pulse).port.errors = s.port.errors ∧
      (s.pulse).timer.elapsed = s.timer.elapsed ∧ (s.pulse).timer.tally = s.timer.tally ∧
      (s.pulse).timer.markLow = s.timer.markLow ∧ (s.pulse).timer.markStart = s.timer.markStart := by
  unfold State.pulse; try dsimp only
  (repeat' split) <;> simp

@[simp] theorem State.requestStatus_frame (s : State) :
    (s.requestStatus).timer = s.timer ∧ (s.requestStatus).align = s.align ∧ (s.requestStatus).acq = s.acq ∧
      (s.requestStatus).drive = s.drive ∧ (s.requestStatus).reg = s.reg ∧ (s.requestStatus).peers = s.peers ∧
      (s.requestStatus).survey = s.survey ∧ (s.requestStatus).records = s.records ∧
      (s.requestStatus).port = s.port ∧ (s.requestStatus).lines = s.lines ∧ (s.requestStatus).draws = s.draws ∧
      (s.requestStatus).pending = s.pending := by
  unfold State.requestStatus; try dsimp only
  (repeat' split) <;> simp

@[simp] theorem State.offerCopy_frame (s : State) (n : Notice) :
    (s.offerCopy n).timer = s.timer ∧ (s.offerCopy n).align = s.align ∧ (s.offerCopy n).acq = s.acq ∧
      (s.offerCopy n).drive = s.drive ∧ (s.offerCopy n).reg = s.reg ∧ (s.offerCopy n).peers = s.peers ∧
      (s.offerCopy n).survey = s.survey ∧ (s.offerCopy n).records = s.records ∧ (s.offerCopy n).port = s.port ∧
      (s.offerCopy n).lines = s.lines ∧ (s.offerCopy n).draws = s.draws ∧ (s.offerCopy n).pending = s.pending := by
  unfold State.offerCopy; try dsimp only
  (repeat' split) <;> simp

@[simp] theorem State.offerCopies_frame (s : State) (es : List SurveyEntry) :
    (s.offerCopies es).timer = s.timer ∧ (s.offerCopies es).align = s.align ∧ (s.offerCopies es).acq = s.acq ∧
      (s.offerCopies es).drive = s.drive ∧ (s.offerCopies es).reg = s.reg ∧ (s.offerCopies es).peers = s.peers ∧
      (s.offerCopies es).survey = s.survey ∧ (s.offerCopies es).records = s.records ∧
      (s.offerCopies es).port = s.port ∧ (s.offerCopies es).lines = s.lines ∧ (s.offerCopies es).draws = s.draws ∧
      (s.offerCopies es).pending = s.pending := by
  induction es generalizing s with
  | nil => simp [State.offerCopies]
  | cons e es ih => unfold State.offerCopies; split <;> simp [ih]

@[simp] theorem State.busyFinding_frame (s : State) :
    (s.busyFinding).timer = s.timer ∧ (s.busyFinding).align = s.align ∧ (s.busyFinding).acq = s.acq ∧
      (s.busyFinding).drive = s.drive ∧ (s.busyFinding).reg = s.reg ∧ (s.busyFinding).peers = s.peers ∧
      (s.busyFinding).survey = s.survey ∧ (s.busyFinding).records = s.records ∧ (s.busyFinding).port = s.port ∧
      (s.busyFinding).lines = s.lines ∧ (s.busyFinding).draws = s.draws ∧ (s.busyFinding).pending = s.pending := by
  unfold State.busyFinding; try dsimp only
  (repeat' split) <;> simp

@[simp] theorem State.portIdle_frame (s : State) :
    (s.portIdle).timer = s.timer ∧ (s.portIdle).align = s.align ∧ (s.portIdle).acq = s.acq ∧
      (s.portIdle).drive = s.drive ∧ (s.portIdle).reg = s.reg ∧ (s.portIdle).link = s.link ∧
      (s.portIdle).peers = s.peers ∧ (s.portIdle).survey = s.survey ∧ (s.portIdle).records = s.records ∧
      (s.portIdle).lines = s.lines ∧ (s.portIdle).draws = s.draws ∧ (s.portIdle).pending = s.pending ∧
      (s.portIdle).port.part = s.port.part ∧ (s.portIdle).port.lastByte = s.port.lastByte ∧
      (s.portIdle).port.reply = s.port.reply ∧ (s.portIdle).port.replyTick = s.port.replyTick ∧
      (s.portIdle).port.params = s.port.params ∧ (s.portIdle).port.planTag = s.port.planTag ∧
      (s.portIdle).port.startTime = s.port.startTime ∧ (s.portIdle).port.errors = s.port.errors ∧
      (s.portIdle).port.attention = s.port.attention ∧ (s.portIdle).port.attn = s.port.attn := by
  unfold State.portIdle; try dsimp only
  (repeat' split) <;> simp

@[simp] theorem State.reply_frame (s : State) (c : Byte) (r : ReplyCode) (b : List Byte) :
    (s.reply c r b).timer = s.timer ∧ (s.reply c r b).align = s.align ∧ (s.reply c r b).acq = s.acq ∧
      (s.reply c r b).drive = s.drive ∧ (s.reply c r b).reg = s.reg ∧ (s.reply c r b).link = s.link ∧
      (s.reply c r b).peers = s.peers ∧ (s.reply c r b).survey = s.survey ∧ (s.reply c r b).records = s.records ∧
      (s.reply c r b).lines = s.lines ∧ (s.reply c r b).draws = s.draws ∧ (s.reply c r b).pending = s.pending ∧
      (s.reply c r b).port.part = s.port.part ∧ (s.reply c r b).port.lastByte = s.port.lastByte ∧
      (s.reply c r b).port.params = s.port.params ∧ (s.reply c r b).port.planTag = s.port.planTag ∧
      (s.reply c r b).port.startTime = s.port.startTime ∧ (s.reply c r b).port.errors = s.port.errors ∧
      (s.reply c r b).port.attention = s.port.attention ∧ (s.reply c r b).port.attn = s.port.attn := by
  unfold State.reply; try dsimp only
  (repeat' split) <;> simp

@[simp] theorem State.takeStatus_frame (s : State) (f : Status) (t : Nat) :
    (s.takeStatus f t).lines = s.lines ∧ (s.takeStatus f t).pending = s.pending ∧
      (s.takeStatus f t).port.part = s.port.part ∧ (s.takeStatus f t).port.state = s.port.state ∧
      (s.takeStatus f t).port.length = s.port.length ∧ (s.takeStatus f t).port.bytes = s.port.bytes ∧
      (s.takeStatus f t).port.lastByte = s.port.lastByte ∧ (s.takeStatus f t).port.reply = s.port.reply ∧
      (s.takeStatus f t).port.replyTick = s.port.replyTick ∧ (s.takeStatus f t).port.params = s.port.params ∧
      (s.takeStatus f t).port.planTag = s.port.planTag ∧ (s.takeStatus f t).port.startTime = s.port.startTime ∧
      (s.takeStatus f t).port.errors = s.port.errors ∧ (s.takeStatus f t).timer.elapsed = s.timer.elapsed ∧
      (s.takeStatus f t).timer.tally = s.timer.tally ∧ (s.takeStatus f t).timer.markLow = s.timer.markLow ∧
      (s.takeStatus f t).timer.markStart = s.timer.markStart ∧ (s.takeStatus f t).timer.opened = s.timer.opened := by
  unfold State.takeStatus; try dsimp only
  (repeat' split) <;> simp

@[simp] theorem State.examine_frame (s : State) (t : Nat) (b : List Byte) (c : Word16) :
    (s.examine t b c).lines = s.lines ∧ (s.examine t b c).pending = s.pending ∧
      (s.examine t b c).port.part = s.port.part ∧ (s.examine t b c).port.state = s.port.state ∧
      (s.examine t b c).port.length = s.port.length ∧ (s.examine t b c).port.bytes = s.port.bytes ∧
      (s.examine t b c).port.lastByte = s.port.lastByte ∧ (s.examine t b c).port.reply = s.port.reply ∧
      (s.examine t b c).port.replyTick = s.port.replyTick ∧ (s.examine t b c).port.params = s.port.params ∧
      (s.examine t b c).port.planTag = s.port.planTag ∧ (s.examine t b c).port.startTime = s.port.startTime ∧
      (s.examine t b c).port.errors = s.port.errors ∧ (s.examine t b c).timer.elapsed = s.timer.elapsed ∧
      (s.examine t b c).timer.tally = s.timer.tally ∧ (s.examine t b c).timer.markLow = s.timer.markLow ∧
      (s.examine t b c).timer.markStart = s.timer.markStart ∧ (s.examine t b c).timer.opened = s.timer.opened := by
  unfold State.examine; try dsimp only
  (repeat' split) <;> simp

end Sys2Proof.Machine
end

