-- ==== Sys2Proof/Laws/Commands.lean ====
section
/-! SUPPORT. What an event row and a port command's row answer: one lemma for an event in a state in which it is due, one for a
state in which it is not, and the answers of a port command, so that no proof unfolds `event`, `portRow` or the reply. -/

namespace Sys2Proof.Machine

open Sys2Proof.Safety

/-- An event that is due answers its effect. -/
theorem event_of_due {due : Prop} [Decidable due] (h : due) (s t : State) : event due s t = .next t := by
  unfold event; rw [if_pos h]

/-- An event that is not due leaves the state. -/
theorem event_of_not_due {due : Prop} [Decidable due] (h : ¬ due) (s t : State) : event due s t = .next s := by
  unfold event; rw [if_neg h]

/-- Whatever an event answers is its effect or the state itself. -/
theorem event_cases {due : Prop} [Decidable due] {s t u : State} (h : event due s t = .next u) :
    (due ∧ u = t) ∨ (¬ due ∧ u = s) := by
  by_cases hd : due
  · rw [event_of_due hd] at h; injection h with h; exact .inl ⟨hd, h.symm⟩
  · rw [event_of_not_due hd] at h; injection h with h; exact .inr ⟨hd, h.symm⟩

/-- A port command's row takes the command at a port with no reply in progress. -/
theorem portRow_next (c : PortCommand) (s : State) (h : s.port.state ≠ .replying) :
    portRow c s = .next (s.takeCommand c) := event_of_due h s _

/-- The port's own fields of a reply and of the frame in assembly are the same in both states. -/
abbrev SameReply (s a : State) : Prop :=
  a.port.state = s.port.state ∧ a.port.length = s.port.length ∧ a.port.bytes = s.port.bytes ∧
    a.port.reply = s.port.reply ∧ a.port.replyTick = s.port.replyTick

/-- The reply just begun answers the command, and the rest is the state it was begun in. -/
theorem reply_answers {s a : State} (h : SameReply s a) (command : Byte) (code : ReplyCode) (body : List Byte) :
    Answers s (a.reply command code body) command code body a := by
  obtain ⟨h1, h2, h3, h4, h5⟩ := h
  refine ⟨⟨rfl, rfl⟩, ?_⟩
  simp only [besidesReply, State.reply, State.setPort, ← h1, ← h2, ← h3, ← h4, ← h5]

/-- A command allowed in the part state is answered with what it does. -/
theorem takeCommand_answers {c : PortCommand} {s : State} (hc : c.allowedIn s.port.part = true)
    (h : SameReply s (s.perform c).state) :
    Answers s (s.takeCommand c) c.code (s.perform c).code (s.perform c).body (s.perform c).state := by
  simp only [State.takeCommand, hc, if_true]
  exact reply_answers h _ _ _

/-- A command that the part state does not allow is refused with STATE. -/
theorem takeCommand_refused {c : PortCommand} {s : State} (hc : c.allowedIn s.port.part = false) :
    Answers s (s.takeCommand c) c.code .state [] s := by
  have h : s.takeCommand c = s.reply c.code .state [] := by
    simp only [State.takeCommand, hc, Bool.false_eq_true, if_false, State.refuse]
  rw [h]
  exact reply_answers ⟨rfl, rfl, rfl, rfl, rfl⟩ _ _ _

end Sys2Proof.Machine
end

