-- ==== Sys2Proof/Laws/Receiver.lean ====
section
/-! SUPPORT. What taking a bit can do, said once: which fields of the link controller it leaves, and when the receiver is OFF. -/

namespace Sys2Proof.Machine

/-- A bit changes the receiver state, the bits taken and the frame in assembly alone. -/
theorem Link.takeBit_frame (l : Link) (bit : Bool) :
    ∃ rx bits assembly, l.takeBit bit = { l with rx := rx, bits := bits, assembly := assembly } := by
  unfold Link.takeBit
  split
  · exact ⟨_, _, _, rfl⟩
  · exact ⟨_, _, _, rfl⟩
  · unfold Link.lengthBit
    split
    · exact ⟨_, _, _, rfl⟩
    · split
      · exact ⟨_, _, _, rfl⟩
      · split <;> exact ⟨_, _, _, rfl⟩
  · unfold Link.bodyBit
    split <;> exact ⟨_, _, _, rfl⟩
  · unfold Link.checkBit
    split <;> exact ⟨_, _, _, rfl⟩

/-- A receiver that is OFF takes no bit. -/
theorem Link.takeBit_off {l : Link} (h : l.rx = .off) (bit : Bool) : l.takeBit bit = l := by
  simp [Link.takeBit, h]

/-- A bit neither switches the receiver OFF nor on. -/
theorem Link.takeBit_rx_off (l : Link) (bit : Bool) : (l.takeBit bit).rx = .off ↔ l.rx = .off := by
  cases h : l.rx <;> simp only [Link.takeBit, h]
  · simp [Link.huntBit, h]
  · unfold Link.lengthBit
    split_ifs <;> simp [h]
  · unfold Link.bodyBit
    split_ifs <;> simp only [h, reduceCtorEq]
    split <;> simp
  · unfold Link.checkBit
    split_ifs <;> simp [h]

/-- A tick of the receiver changes the bit timing and, when a centre falls in it, what a bit changes. -/
theorem Link.rxTick_eq (l : Link) (r : RxLine) :
    ∃ rx bits assembly, l.rxTick r =
      { l with rx := rx, bits := bits, assembly := assembly, toCentre := l.centreAfter r - 12 } := by
  unfold Link.rxTick
  split
  · obtain ⟨rx, bits, assembly, h⟩ := l.takeBit_frame (majority r)
    exact ⟨rx, bits, assembly, by rw [h]⟩
  · exact ⟨l.rx, l.bits, l.assembly, rfl⟩

/-- A tick without a transition takes the bit whose centre falls in it, and the next centre is 13 twelfths past the tick. -/
theorem Link.rxTick_centre {l : Link} {r : RxLine} (h : r.retimed = none) (ha : r.retimedAfter = none) (hc : l.toCentre < 12) :
    l.rxTick r = { l.takeBit (majority r) with toCentre := l.toCentre + 13 } := by
  simp [Link.rxTick, Link.centreAfter, Link.centreFrom, h, ha, hc, Config.bitTwelfths]

/-- A tick without a transition that a centre does not fall in only brings the centre nearer. -/
theorem Link.rxTick_no_centre {l : Link} {r : RxLine} (h : r.retimed = none) (ha : r.retimedAfter = none)
    (hc : 12 ≤ l.toCentre) : l.rxTick r = { l with toCentre := l.toCentre - 12 } := by
  simp [Link.rxTick, Link.centreAfter, Link.centreFrom, h, ha, Nat.not_lt.mpr hc]

/-- The majority of three samples is one when at least two of them are (R63). -/
theorem majority_eq (r : RxLine) : majority r = decide (2 ≤ r.early.toNat + r.centre.toNat + r.late.toNat) := by
  unfold majority
  cases r.early <;> cases r.centre <;> cases r.late <;> rfl

/-- The byte of the bits of a byte, most significant first, is that byte (R63). -/
theorem byteOf_byteBits (b : Byte) : byteOf (byteBits b) = b := by
  revert b
  decide

end Sys2Proof.Machine
end

