-- ==== Sys2Proof/Tests/Slice0.lean ====
section
/-! SUPPORT. Tests by `decide`: each operand check of WellFormed refuses an ill-formed term; the worked numbers of the spec come out of
the model (each test names its section); and, for every obligation with hypotheses, a concrete state and operands that meet them
together, clause by clause at a boundary of its range (the theorems named witness_…). -/

section Tests

open Sys2Proof Sys2Proof.Machine Sys2Proof.Safety

/-! ### States to test on -/

/-- The state after a command; the state itself if it gave none. -/
def after (c : Instr) (s : State) : State :=
  match exec c s with
  | .next t => t
  | .fault _ => s
  | .refused _ => s

/-- The defaults with station number 212, chainage 1,480 and anchor permitted. -/
def ps212 : Params := ((defaultParams.set 0 212).set 1 1480).set 4 1

/-- A part in SETUP that is ready to start, at line time 500,000. -/
def setup0 : State :=
  { State.reset with
    port := { Port.reset with params := ps212, startTime := 500000 }
    timer := { Timer.reset with lineTime := 500000 } }

/-- A part RUNNING in FREE at the epoch end 300,000. -/
def run0 : State :=
  { State.reset with
    port := { Port.reset with part := .running, params := ps212, planTag := 5 }
    timer :=
      { Timer.reset with
        lineTime := 300000, elapsed := 300000, nextEpochEnd := some 300000, epochWork := .whole 300000, tally := 2
        counted := true }
    align := { Align.reset with timing := .free, root := 212 }
    acq := { Acq.reset with running := true, slotStart := 299995 }
    link := { Link.reset with rx := .hunt } }

/-- A peer of station 205 with this root and offset. -/
def peer (root : Nat) (offset : Int) : Peer :=
  { station := 205, chainage := 1500, planMatch := true, timing := .free, root := root, offset := offset, lastHeard := 2
    drive := .on, current := 1000, condition := .normal, holdReason := none, amount := none, depth := none
    plan := .steady, survey := none, heardCount := 7 }

/-- `run0` with a drive state. -/
def drive0 (d : DriveState) : State := { run0 with drive := { Drive.reset with state := d, setpointCode := 410 } }

/-- A survey of S 0, C 20,000, F_s 6,000 and N 5. -/
def survey0 : SurveyParams :=
  { start := 0, cycle := 20000, offLen := 6000, dither := .noDither, ditherSpan := 0, cycles := 5 }

/-- An entry of that survey, of origin 212. -/
def entry0 (state : EntryState) : SurveyEntry :=
  { id := ⟨212, 1⟩, spanFrom := 0, spanTo := 2000, params := some survey0, halt := none, endTime := some 100000, state := state
    relay := .start, copiesLeft := 3, hops := 2, heard := 0, receipt := 0 }

/-- A pair of a kind with its windows at 28,000, 30,000 and 33,000. -/
def pair0 (kind : PairKind) : Pair :=
  { kind := kind, index := 0, survey := none, onRefStart := 28000, offStart := 30000, offEnd := 33000, serial := 4 }

/-- A conversion's tags. -/
def tag0 (channel : Channel) (role : WindowState) (seq : Nat) (closed : Bool) : Tag :=
  { channel := channel, role := role, pair := some 4, offset := 500, switchClosed := closed, seq := seq }

/-- What is gathered for `pair0`. -/
def work0 (bank : Option BankId) : PairWork :=
  { pair := pair0 .check, onSums := ⟨⟨-2000, 2⟩, ⟨100, 2⟩, ⟨500, 3⟩⟩, figures := none, ring := [], onSlots := 400
    offStart := 299500, offSet := ⟨0, 0, 0, 0⟩, bank := bank }

/-- `run0` at the end of a slot: the ended slot's tags, and the tags of the conversion that it delivers. -/
def slot0 (window : WindowState) (ended delivered : Tag) (current flushing : Option PairWork) : State :=
  { run0 with
    timer :=
      { run0.timer with window := window, pair := if window = .noWindow then none else some (pair0 .check) }
    acq :=
      { run0.acq with
        slot := some ended
        seq := 3
        pipe := some { tag := delivered, code := -7240 }
        current := current
        flushing := flushing
        bankA := { state := .filling, header := some (pair0 .check).header, entries := [] } } }

/-- A STATUS frame of station 213 (section 4.7). -/
def frame213 (station chainage : Nat) (timing : TimingState) : Status :=
  { station := station, chainage := chainage, planTag := 5, stamp := 7312366, timing := timing, root := 205, plan := .steady
    drive := .on, current := 3000, condition := .short, holdReason := none, depth := some 790, amount := some 60
    survey := none }

/-- A START notice of `survey0`. -/
def notice0 (origin hops : Nat) (body : NoticeBody) : Notice :=
  { id := ⟨origin, 9⟩, hops := hops, spanFrom := 0, spanTo := 2000, body := body }

/-- A state whose receiver has taken a frame with this body and CRC, with receive stamp 7,312,417. -/
def receivedWith (s : State) (body : List Byte) (crc : Word16) : State :=
  { s with
    link :=
      { s.link with
        rx := .check
        assembly :=
          some
            { stamp := 7312417, length := some body.length, body := body
              crc := [BitVec.ofNat 8 (crc.toNat / 256), BitVec.ofNat 8 crc.toNat] } } }

/-- The CRC of a body. -/
def crcOf (body : List Byte) : Word16 := crc16 (BitVec.ofNat 8 body.length :: body)

/-- A state whose receiver has taken a frame with this body and the CRC that matches. -/
def received (s : State) (body : List Byte) : State := receivedWith s body (crcOf body)

/-- The radio's lines with CD active and no change on the data line, at the level zero. -/
def quiet : RadioLines := { cd := true, data := { retimed := none, retimedAfter := none, early := false, centre := false, late := false } }

/-- The radio's lines with this place of the coming centre, no transition after it, and these three samples. -/
def radio0 (retimed : Option Nat) (early centre late : Bool) : RadioLines :=
  { cd := true, data := { retimed := retimed, retimedAfter := none, early := early, centre := centre, late := late } }

/-- The radio's lines with the centre of a bit of three ones as it ran on, then a transition that puts the next centre here. -/
def radioAfter (retimedAfter : Nat) : RadioLines :=
  { cd := true
    data := { retimed := none, retimedAfter := some retimedAfter, early := true, centre := true, late := true } }

/-- A link whose receiver is in this state with these bits taken and this frame in assembly. -/
def receiver0 (rx : RxState) (bits : List Bool) (f : RxFrame) : Link :=
  { Link.reset with rx := rx, bits := bits, assembly := some f }

/-! ### WellFormed refuses an ill-formed term for each of its checks -/

theorem test_wf_conversionSlot :
    Instr.wellFormed (.conversionSlot 32768) = false ∧ Instr.wellFormed (.conversionSlot (-32769)) = false ∧
      Instr.wellFormed (.conversionSlot (-32768)) = true := by decide

theorem test_wf_frameComplete :
    Instr.wellFormed (.frameComplete (List.replicate 15 0) 0) = false ∧
      Instr.wellFormed (.frameComplete (List.replicate 33 0) 0) = false ∧
      Instr.wellFormed (.frameComplete (List.replicate 32 0) 0) = true := by decide

theorem test_wf_unknownCommand :
    Instr.wellFormed (.unknownCommand 0x10) = false ∧ Instr.wellFormed (.unknownCommand 0x1C) = true := by decide

theorem test_wf_port_operands :
    Instr.wellFormed (.loadParameter 256 0) = false ∧ Instr.wellFormed (.loadParameter 1 2147483648) = false ∧
      Instr.wellFormed (.loadParameter 1 (-2147483649)) = false ∧ Instr.wellFormed (.readParameter 256) = false ∧
      Instr.wellFormed (.setLineTime 4294967296) = false ∧ Instr.wellFormed (.readRecords 256) = false ∧
      Instr.wellFormed (.captureFetch 65536 1) = false ∧ Instr.wellFormed (.captureFetch 0 256) = false := by decide

theorem test_wf_surveyStart :
    Instr.wellFormed (.surveyStart ⟨65536, 0, 0, 0, 0, 0, 0, 0, 0⟩) = false ∧
      Instr.wellFormed (.surveyStart ⟨0, 4294967296, 0, 0, 0, 0, 0, 0, 0⟩) = false ∧
      Instr.wellFormed (.surveyStart ⟨0, 0, 65536, 0, 0, 0, 0, 0, 0⟩) = false ∧
      Instr.wellFormed (.surveyStart ⟨0, 0, 0, 256, 0, 0, 0, 0, 0⟩) = false ∧
      Instr.wellFormed (.surveyStart ⟨0, 0, 0, 0, 65536, 0, 0, 0, 0⟩) = false ∧
      Instr.wellFormed (.surveyStart ⟨0, 0, 0, 0, 0, 65536, 0, 0, 0⟩) = false ∧
      Instr.wellFormed (.surveyStart ⟨0, 0, 0, 0, 0, 0, 65536, 0, 0⟩) = false ∧
      Instr.wellFormed (.surveyStart ⟨0, 0, 0, 0, 0, 0, 0, 65536, 0⟩) = false ∧
      Instr.wellFormed (.surveyStart ⟨0, 0, 0, 0, 0, 0, 0, 0, 256⟩) = false := by decide

theorem test_wf_syncPatternMatch :
    Instr.wellFormed (.syncPatternMatch 0xE4B0) = false ∧ Instr.wellFormed (.syncPatternMatch 0xE4B1) = true := by decide

theorem test_wf_frameAbandoned :
    Instr.wellFormed (.frameAbandoned 16) = false ∧ Instr.wellFormed (.frameAbandoned 32) = false ∧
      Instr.wellFormed (.frameAbandoned 15) = true ∧ Instr.wellFormed (.frameAbandoned 33) = true := by decide

theorem test_wf_lineTick :
    Instr.wellFormed (.lineTick (radio0 (some 37) true true true) true) = false ∧
      Instr.wellFormed (.lineTick (radio0 (some 36) true true true) true) = true ∧
      Instr.wellFormed (.lineTick (radioAfter 37) true) = false ∧ Instr.wellFormed (.lineTick (radioAfter 36) true) = true ∧
      Instr.wellFormed (.lineTick (radioAfter 11) true) = false ∧
      Instr.wellFormed (.lineTick (radioAfter 12) true) = true := by decide

/-! ### The spec's worked numbers -/

/-- Section 1.5.1. -/
theorem test_dither :
    [0, 1, 2, 3, 6].map (ditherAt .pseudo · 12000) = [0, 7416, 2832, 10249, 8498] ∧
      [11, 24, 32].map (ditherAt .triangle · 12000) = [7500, 12000, 0] := by decide

/-- Section 1.7.1. -/
theorem test_survey_placement :
    [0, 3, 8, 9].map (fun k =>
      let p := SurveyParams.pair
        { start := 5000000, cycle := 20000, offLen := 6000, dither := .triangle, ditherSpan := 4000, cycles := 1800 }
        ⟨1, 1⟩ 2000 k 0
      (p.onRefStart, p.offStart, p.offEnd)) =
      [(5012000, 5014000, 5020000), (5070500, 5072500, 5078500), (5168000, 5170000, 5176000),
        (5188500, 5190500, 5196500)] := by decide

/-- Section 2.2.1. -/
theorem test_calibration :
    Params.calibrate ((defaultParams.set 14 25).set 15 (-3)) .psp (-7240) = -910 ∧
      Params.calibrate ((defaultParams.set 16 (-40)).set 17 12) .outi 10000 = 6091 ∧
      Params.calibrate (defaultParams.set 19 7) .outv (-150) = 7 := by decide

/-- Section 3.8: the code of I_init 2,000 mA of 20,000 mA. -/
theorem test_code : Params.codeOf defaultParams 2000 = 410 := by decide

/-- Section 6.4.1: cases A to G, the correction handed at an epoch end. -/
theorem test_corrections :
    ([([36, -12, 30, 480], 0), ([-7, -2], 0), ([1], 0), ([250, -310], -6), ([], 0)] : List (List Int × Int)).map
      (fun x =>
        State.averagingCorrection
          { run0 with peers := x.1.map (peer 212), align := { run0.align with pendingCorr := x.2 } }) =
      [9, -2, 0, -6, 0] := by decide

theorem test_correction_under_survey :
    State.averagingCorrection
      { run0 with
        timer := { run0.timer with lineTime := 50000 }
        peers := [150, 170].map (peer 212)
        align := { run0.align with pendingCorr := 7 }
        survey := { table := [entry0 .active], ownSeq := 1 } } = 10 := by decide

/-- Section 5.7, steps 1 to 5, from the table that it opens with. -/
def table57 : List Peer :=
  ([(205, 1100), (207, 1200), (208, 1250), (210, 1380), (211, 1420), (213, 1600), (214, 1720), (216, 1860)] :
    List (Nat × Nat)).map fun x => { peer 212 0 with station := x.1, chainage := x.2 }

theorem test_admission_full :
    (State.takeStatus { run0 with peers := table57 } (frame213 204 1110 .free) 0).peers.map Peer.station =
      [205, 204, 207, 208, 210, 211, 213, 214] ∧
    admission (frame213 209 1100 .free) 0
      { run0 with peers := insertPeer { peer 212 0 with station := 204, chainage := 1110 } (removePeer 216 table57) } =
      .discarded ∧
    admission (frame213 218 1880 .free) 0 { run0 with peers := table57 } = .discarded ∧
    admission (frame213 220 1900 .free) 0 { run0 with peers := table57 } = .outOfSpan ∧
    admission (frame213 212 1480 .free) 0 { run0 with peers := table57 } = .duplicate := by decide

/-- Sections 4.7 and 5.7, step 6: the offset +9. -/
theorem test_offset : (peerOf (frame213 213 1600 .free) 7312417 run0 1).offset = 9 := by decide

/-- Section 11.3.1: the worked STATUS body. -/
theorem test_status_body :
    (frame213 213 1600 .free).enc.length = 24 ∧ (frame213 213 1600 .free).enc.getD 1 0 = 0x06 ∧
      (frame213 213 1600 .free).enc.drop 20 = [0x03, 0x16, 0x00, 0x3C] := by decide

/-- Section 7.5.1, case 1: I_set 4,200 becomes 5,200 mA of code 1,065 at P = 905. -/
def case1 : State :=
  { run0 with
    port := { run0.port with params := ((ps212.set 34 480).set 36 1000).set 38 12000 }
    timer := { run0.timer with tally := 1000 }
    drive := { Drive.reset with state := .on, switchClosed := true }
    reg := { Reg.reset with iSet := 4200, driveAtOnRef := true }
    peers := [{ peer 212 0 with station := 213, chainage := 1600, condition := .short, amount := some 60, lastHeard := 1000 }] }

def reduction0 (eOff spread : Int) : Reduction :=
  { kind := .check, index := 6, survey := none, eOn := some (-1100), iOn := 4200, vOn := 9000, eOff := some eOff
    spread := spread, setCount := 32, short := false, truncated := false, abandoned := false }

theorem test_setpoint_case1 :
    (case1.regulate (reduction0 (-905) 12)).reg.iSet = 5200 ∧ (case1.regulate (reduction0 (-905) 12)).drive.setpointCode = 1065 ∧
      case1.goal = 968 := by decide

/-- Section 11.4: R187's default bytes, and R179: the defaults fail at C1 alone. -/
theorem test_conflict :
    Params.conflict defaultParams = some 1 ∧ Params.conflict ps212 = none ∧
      Params.conflict (ps212.set 9 600) = some 7 := by decide

/-- CRC-16 with initial value FFFFh and polynomial 1021h over the ASCII digits 1 to 9 is 29B1h (the published check value of this
CRC). -/
theorem test_crc16 : crc16 [0x31, 0x32, 0x33, 0x34, 0x35, 0x36, 0x37, 0x38, 0x39] = 0x29B1 := by decide +kernel

/-- R63: the majority of three samples; and a bit's centre in the tick, one twelfth of a tick short of the next one, and a bit of
25/12 ticks on. -/
theorem test_receiver_bit :
    majority (radio0 none true false true).data = true ∧ majority (radio0 none false true false).data = false ∧
      ((Link.reset.rxTick (radio0 (some 11) true true true).data).toCentre = 24 ∧
        (Link.reset.rxTick (radio0 (some 12) true true true).data).toCentre = 0) := by decide

/-- R63: a tick that takes a bit and then has a transition does both. -/
theorem test_receiver_bit_then_transition :
    let l := { run0.link with toCentre := 3 }.rxTick (radioAfter 27).data
    l.bits = [true] ∧ l.toCentre = 15 := by decide

/-- R74, R64: the sync pattern 1110 0100 1011 0001 is complete at the tick that takes its last bit. -/
theorem test_sync_taken :
    (after (.lineTick (radio0 (some 0) false true true) true)
      { run0 with
        link :=
          { run0.link with
            bits :=
              [false, true, true, true, false, false, true, false, false, true, false, true, true, false, false,
                false] } }).link.syncMatched 0xE4B1 := by decide

/-- R101: after a step in the epoch end's tick the epoch end still occurs, and the step's next epoch end stands (log 32). -/
theorem test_epoch_after_step :
    (after .epochEnd
      { run0 with
        timer := { run0.timer with lineTime := 300009, nextEpochEnd := some 400000, epochWork := .rest } }).timer =
      { run0.timer with lineTime := 300009, nextEpochEnd := some 400000, epochWork := .nothing, tally := 3 } := by decide

/-- R15: a correction of +9 from 27,995, or from 28,000 in the tick in which counting reaches it, opens the check notch whose on-reference
start is 28,000. R6, R12, R160: no correction opens it when its start has passed, as at 28,004 with +9, or at 30,010 with -20, which
lands before its off start 30,000. A correction of -9 to before the start opens nothing yet. -/
theorem test_pair_at_correction :
    (({ run0 with timer := { run0.timer with lineTime := 27995, opened := 4 } }.applyCorrection 9).timer.pair =
        some (pair0 .check)) ∧
      (({ run0 with timer := { run0.timer with lineTime := 28000, opened := 4, counted := true } }.applyCorrection 9).timer.pair =
        some (pair0 .check)) ∧
      ([(28000, false, (9 : Int)), (28004, true, 9), (30010, true, -20), (28004, true, -9)].all fun x =>
        decide
          (({ run0 with timer := { run0.timer with lineTime := x.1, opened := 4, counted := x.2.1 } }.applyCorrection
            x.2.2).timer.pair = none)) = true := by decide

/-- A command frame: PART STATUS is A5 01 14 and the CRC-8 of 01 14. -/
theorem test_port_frame : PortCommand.partStatus.frame = [0xA5, 0x01, 0x14, crc8 [0x01, 0x14]] := by decide +kernel

/-! ### Witnesses: line ticks and epoch ends

A hypothesis that only names a value (`u = epochCounted s 0`) is met by that value, which stands in its place below. -/

theorem witness_StepRunsFrontCommand :
    (∃ c rest, ({ run0 with pending := [.start, .restart] } : State).pending = c :: rest) ∧ run0.pending = [] := by
  exact ⟨⟨_, _, rfl⟩, rfl⟩

theorem witness_RestartKeepsRecordAndSequence :
    (∃ p, run0.port.state ≠ .replying ∧ exec .powerOnReset run0 = .next p) ∧
      ∃ p, setup0.port.state ≠ .replying ∧ exec .powerOnReset setup0 = .next p :=
  ⟨⟨_, by decide, rfl⟩, ⟨_, by decide, rfl⟩⟩

theorem witness_LineTickCounts : setup0.port.part = .setup ∧ run0.port.part = .running := by decide

/-- `run0` in a timing state with these counts. -/
def align0 (timing : TimingState) (acquire lower lost : Nat) : State :=
  { run0 with
    align :=
      { run0.align with timing := timing, acquireCount := acquire, lowerStreak := lower, lostStreak := lost } }

theorem witness_EpochEndInAcquireOrAnchored :
    ∀ s ∈ [align0 .acquire 0 0 0, align0 .acquire 1 0 0, align0 .acquire 2 0 0, align0 .anchored 0 0 0],
      AtEpochEnd s ∧ (s.align.timing = .acquire ∨ s.align.timing = .anchored) := by decide

/-- The other two ways in which an epoch end waits: after a correction of its tick, and after a step of it. -/
theorem witness_AtEpochEnd :
    ∀ t ∈ [{ run0.timer with lineTime := 299991, nextEpochEnd := some 400000 },
        { run0.timer with lineTime := 300480, nextEpochEnd := some 400000, epochWork := .rest }],
      AtEpochEnd { align0 .acquire 2 0 0 with timer := t } := by decide

/-- `run0` with these offsets among its peers, this pending correction and this pair in progress. -/
def corrected (offsets : List Int) (pend : Int) (pair : Option Pair) : State :=
  { run0 with
    timer := { run0.timer with pair := pair }
    peers := offsets.map (peer 212)
    align := { run0.align with lowerStreak := 2, lostStreak := 4, pendingCorr := pend } }

/-- The same, while a survey that began at line time 0 is ACTIVE. -/
def correctedInSurvey : State :=
  { corrected [150, 170] 7 none with survey := { table := [{ entry0 .active with endTime := some 400000 }], ownSeq := 1 } }

/-- The correction at its two bounds, at 0, under a pair in progress, and at the bound of SURVEY. -/
theorem witness_EpochEndCorrection :
    ∀ x ∈ [(corrected [200, -12, 30, 480] 0 none, (20 : Int), (20 : Int)), (corrected [-200] 0 none, 20, -20),
        (corrected [1] 0 none, 20, 0), (corrected [] 0 none, 20, 0), (corrected [250, -310] (-6) none, 20, -6),
        (corrected [36] 0 (some (pair0 .check)), 20, 18), (correctedInSurvey, 10, 10)],
      let s := x.1
      let u := epochCounted s 0
      let near := u.peers.filter (fun p => decide (SynchronizedPeer u p ∧ -200 ≤ p.offset ∧ p.offset ≤ 200))
      let included :=
        if ∃ p ∈ near, p.timing = .anchored then near.filter (fun p => decide (p.timing = .anchored)) else near
      AtEpochEnd s ∧ (s.align.timing = .free ∨ s.align.timing = .tracking) ∧
        (if ∃ p ∈ u.peers, MergeCandidate u p then s.align.lowerStreak + 1 else 0) < 3 ∧
        (if (∃ p ∈ u.peers, SynchronizedPeer u p) ∧ near = [] then s.align.lostStreak + 1 else 0) < 6 ∧
        x.2.1 = (if s.survey.planAt s.timer.lineTime = .survey then 10 else 20) ∧
        x.2.2 = max (-x.2.1) (min x.2.1
          (((included.map Peer.offset).sum.tdiv included.length).tdiv 2 + s.align.pendingCorr)) := by decide

/-- A survey of S 200,000 whose first cycle has its on-reference start at 300,009 and its off start at 302,009. -/
def survey1 : SurveyParams := { survey0 with start := 200000, cycle := 108009, cycles := 2 }

/-- Its entry, ACTIVE, and the pair of its first cycle. -/
def entry1 : SurveyEntry := { entry0 .active with params := some survey1, endTime := some 416018 }
def pair1 : Pair :=
  { kind := .survey, index := 0, survey := some ⟨212, 1⟩, onRefStart := 300009, offStart := 302009, offEnd := 308009
    serial := 4 }

/-- A correction of +9 at the epoch end 300,000 comes to the on-reference start of that pair and opens it; one to 300,008 does not. -/
theorem witness_CorrectionOpens :
    let s : State :=
      { run0 with timer := { run0.timer with opened := 4 }, survey := { table := [entry1], ownSeq := 1 } }
    NoticesLaw s ∧ PairAt s (s.survey.planAt 300009) 300009 pair1 ∧ OpensAt s 300009 pair1 ∧
      PairAt s (s.survey.planAt 300008) 300008 pair1 ∧ ¬ OpensAt s 300008 pair1 :=
  ⟨by decide, ⟨rfl, 302009, .inr ⟨entry1, survey1, by decide⟩⟩, by decide,
    ⟨rfl, 302009, .inr ⟨entry1, survey1, by decide⟩⟩, by decide⟩

/-- `run0` at its third epoch end with merge candidates, of which the last has this offset. -/
def merging (offset : Int) : State :=
  { run0 with
    peers :=
      [{ peer 205 3 with station := 206, chainage := 1450 }, { peer 205 3 with station := 207, chainage := 1460 },
        { peer 205 offset with station := 205, chainage := 1500 }, { peer 206 3 with station := 210, chainage := 1501 }]
    align := { run0.align with lowerStreak := 2 } }

/-- The chosen peer is the last of three at root 205. (A merge candidate is an entry of the table, so that the statement's "every q"
is every entry.) -/
theorem witness_RootMergeStepsToChosenPeer :
    ∀ x ∈ [(merging 0, 0), (merging 9, 9),
        ({ merging 9 with timer := { (merging 9).timer with pair := some (pair0 .check) } }, (9 : Int))],
      let s := x.1
      let p : Peer := { peer 205 x.2 with station := 205, chainage := 1500 }
      AtEpochEnd s ∧ s.align.timing = .free ∧ 2 ≤ s.align.lowerStreak ∧ MergeCandidate (epochCounted s 0) p ∧
        ∀ q ∈ (epochCounted s 0).peers, MergeCandidate (epochCounted s 0) q → q ≠ p →
          p.root < q.root ∨ (p.root = q.root ∧ (span s p.chainage < span s q.chainage ∨
            (span s p.chainage = span s q.chainage ∧ p.station < q.station))) := by decide

/-- The merging station with a check pair in progress whose gathered work fills bank A, as a step finds it. -/
def mergingInPair : State :=
  { merging 9 with
    timer := { (merging 9).timer with pair := some (pair0 .check), window := .off }
    acq :=
      { run0.acq with
        current := some (work0 (some .a))
        bankA := { state := .filling, header := some (pair0 .check).header, entries := [] } } }

theorem witness_StepAbandons :
    mergingInPair.timer.pair ≠ none ∧ mergingInPair.acq.current = some (work0 (some .a)) ∧
      (work0 (some .a)).bank = some .a ∧ (mergingInPair.acq.bank .a).header = some (pair0 .check).header ∧
      (9 : Int) ≠ 0 ∧ ¬ SlotStarts mergingInPair ∧
      SlotStarts
        { mergingInPair with acq := { mergingInPair.acq with slot := some (slotZero true), slotStart := 300000 } } ∧
      (work0 none).bank = none := by decide

/-- `run0` at its sixth epoch end with synchronized peers at 201 ticks and no merge candidate. -/
def losing (lower : Nat) : State :=
  { run0 with
    peers := [peer 212 201, { peer 212 (-201) with station := 206 }]
    align := { run0.align with lowerStreak := lower, lostStreak := 5 } }

theorem witness_LostLockEntersAcquire :
    ∀ s ∈ [losing 0, losing 2],
      let u := epochCounted s 0
      AtEpochEnd s ∧ (s.align.timing = .free ∨ s.align.timing = .tracking) ∧ 5 ≤ s.align.lostStreak ∧
        (s.align.lowerStreak < 2 ∨ ¬ ∃ p ∈ u.peers, MergeCandidate u p) ∧ (∃ p ∈ u.peers, SynchronizedPeer u p) ∧
        ∀ p ∈ u.peers, SynchronizedPeer u p → p.offset < -200 ∨ 200 < p.offset := by decide

/-- `run0` at its transmission point, with these waiting frames and one entry with copies left. -/
def offering (queue : List TxEntry) (drops : Nat) : State :=
  { run0 with
    timer := { run0.timer with txPoint := some 300000 }
    survey := { table := [entry0 .active], ownSeq := 1 }
    link :=
      { run0.link with
        queue := queue, txDropTally := drops, tx := if queue = [] then .idle else .defer } }

theorem witness_TransmissionPointQueues :
    ∀ s ∈ [offering [] 0, offering [.status] 0, offering (List.replicate 6 (.notice (entry0 .active).copy)) 65535],
      s.port.part = .running ∧ s.timer.txPoint = some 300000 ∧ atOrPast s.timer.lineTime 300000 ∧
        s.link.queue.length ≤ 6 ∧ s.link.txDropTally ≤ 65535 := by decide

/-! ### Witnesses: window pairs -/

/-- `run0` at the on-reference start of the first check notch, with these banks. -/
def checkStart (a b : BankState) (newer : Option BankId) : State :=
  { run0 with
    timer := { run0.timer with lineTime := 28000, opened := 4 }
    acq :=
      { run0.acq with
        bankA := { state := a, header := none, entries := [] }, bankB := { state := b, header := none, entries := [] }
        newer := newer } }

/-- `run0` at the on-reference start of the first survey cycle, 12,000. -/
def surveyStart0 : State :=
  { run0 with
    timer := { run0.timer with lineTime := 12000, opened := 4, plan := .survey }
    survey := { table := [entry0 .active], ownSeq := 1 } }

/-- A check pair, with every state of the banks that a clause names. -/
theorem witness_OnReferenceStartOpensPair_check :
    ∀ x ∈ [(BankState.free, BankState.sealed, none), (.sealed, .free, none), (.sealed, .sealed, some BankId.a),
        (.sealed, .sealed, some .b), (.sealed, .held, some .a), (.held, .sealed, some .b), (.held, .filling, none)],
      let s := checkStart x.1 x.2.1 x.2.2
      let p := pair0 .check
      let off : Int := 30000
      s.port.part = .running ∧ s.timer.pair = none ∧ s.align.timing = .free ∧ s.timer.counted = true ∧
        s.timer.plan = s.survey.planAt s.timer.lineTime ∧ s.timer.plan = .steady ∧
        s.timer.lineTime / 100000 % s.params.nat 6 = 0 ∧ p.kind = .check ∧ p.index = s.timer.lineTime / 100000 ∧
        p.survey = none ∧
        off = p.index * 100000 + s.params.nat 7 +
          ditherAt ((ditherOfCode (s.params.nat 8)).getD .noDither) p.index (s.params.nat 9) ∧
        p.onRefStart = shifted 0 (off - s.params.nat 13) ∧ p.offStart = shifted 0 off ∧
        p.offEnd = shifted 0 (off + s.params.nat 10) ∧ p.onRefStart = s.timer.lineTime ∧ p.serial = s.timer.opened := by
  decide

theorem witness_OnReferenceStartOpensPair_survey :
    let s := surveyStart0
    let e := entry0 .active
    let v := survey0
    let p : Pair :=
      { kind := .survey, index := 0, survey := some ⟨212, 1⟩, onRefStart := 12000, offStart := 14000, offEnd := 20000
        serial := 4 }
    let off : Int := 14000
    s.port.part = .running ∧ s.timer.pair = none ∧ s.align.timing = .free ∧ s.timer.counted = true ∧
      s.timer.plan = s.survey.planAt s.timer.lineTime ∧ s.timer.plan = .survey ∧ s.survey.adoptedEntry = some e ∧
      e.params = some v ∧ p.kind = .survey ∧ p.index = shifted s.timer.lineTime (-v.start) / v.cycle ∧
      p.survey = some e.id ∧
      off = v.start + p.index * v.cycle + v.cycle - v.offLen - ditherAt v.dither p.index v.ditherSpan ∧
      p.onRefStart = shifted 0 (off - min (s.params.nat 13) (v.cycle - v.offLen - v.ditherSpan - 1000)) ∧
      p.offStart = shifted 0 off ∧ p.offEnd = shifted 0 (off + v.offLen) ∧ p.onRefStart = s.timer.lineTime ∧
      p.serial = s.timer.opened := by decide

/-- `run0` inside the pair's windows at this line time, with a slot that started at this elapsed tick. -/
def inPair (kind : PairKind) (window : WindowState) (lineTime slotStart : Nat) (slot : Option Tag) : State :=
  { run0 with
    timer := { run0.timer with lineTime := lineTime, pair := some (pair0 kind), window := window }
    acq := { run0.acq with slotStart := slotStart, slot := slot, current := some (work0 (some .a)) } }

/-- At the off start: a slot of before, a slot of this tick, no slot; a check pair and a survey pair; nothing gathered. -/
theorem witness_OffStartOpensSwitch :
    ∀ s ∈ [inPair .check .onReference 30000 299998 (some (tag0 .psp .onReference 399 true)),
        inPair .survey .onReference 30000 300000 (some (tag0 .psp .onReference 400 true)),
        inPair .check .onReference 30001 300000 none,
        { inPair .check .onReference 30000 300000 none with acq := { run0.acq with slotStart := 300000 } }],
      s.timer.window = .onReference ∧ (s.timer.pair = some (pair0 .check) ∨ s.timer.pair = some (pair0 .survey)) ∧
        atOrPast s.timer.lineTime (pair0 .check).offStart := by decide

theorem witness_OffEndEndsPair :
    ∀ s ∈ [inPair .check .off 33000 299998 (some (tag0 .psp .off 399 false)),
        inPair .survey .off 33000 300000 (some (tag0 .psp .off 400 false)), inPair .check .off 33001 300000 none],
      s.timer.window = .off ∧ (s.timer.pair = some (pair0 .check) ∨ s.timer.pair = some (pair0 .survey)) ∧
        atOrPast s.timer.lineTime (pair0 .check).offEnd := by decide

/-- The five events, each at the first tick it is due. -/
theorem witness_TimedEventsChangeOneBlock :
    (∀ s ∈ ([{ run0 with timer := { run0.timer with markLow := true, markStart := 299500 } }] : List State),
      s.timer.markLow = true ∧ 500 ≤ (s.timer.elapsed + 4294967296 - s.timer.markStart) % 4294967296) ∧
    (∀ s ∈ ([{ run0 with align := { run0.align with lowRun := 1000 } }] : List State),
      s.port.part = .running ∧ s.align.armed = false ∧ s.align.lowRun = 1000) ∧
    (∀ s ∈ ([{ run0 with drive := { (drive0 .on).drive with cleanRun := some 4292267296 } }] : List State),
      s.drive.state = .on ∧ s.drive.cleanRun = some 4292267296 ∧
        3000000 ≤ (s.timer.elapsed + 4294967296 - 4292267296) % 4294967296) ∧
    (∀ s ∈ ([{ run0 with align := { run0.align with timing := .anchored, lastPulse := some 270000 } }] : List State),
      s.align.timing = .anchored ∧ s.align.lastPulse = some 270000 ∧
        30000 ≤ (s.timer.elapsed + 4294967296 - 270000) % 4294967296) ∧
    (∀ s ∈ ([{ run0 with link := { run0.link with tx := .keyed, keyStart := 299700 } }] : List State),
      s.link.tx = .keyed ∧ 300 ≤ (s.timer.elapsed + 4294967296 - s.link.keyStart) % 4294967296) := by decide

/-- The last epoch's notch with every parameter at its upper bound, and at its lower; the longest and the shortest survey. -/
theorem witness_WindowPlacement :
    (∀ ps ∈ ([(((ps212.set 6 60000).set 8 20000).set 9 8000).set 12 5000, (ps212.set 6 10000).set 12 5000] : List Params),
      8639 < 8640 ∧ 10000 ≤ ps.nat 7 ∧ ps.nat 7 ≤ 60000 ∧ ps.nat 9 ≤ 20000 ∧ ps.nat 10 ≤ 8000 ∧ ps.nat 13 ≤ 5000) ∧
    ∀ v ∈ [{ survey0 with start := 863999999, cycle := 200000, offLen := 50000, ditherSpan := 20000, cycles := 2160 },
        { survey0 with cycle := 10000, offLen := 8500, cycles := 1 }],
      v.InRange ∧ v.start < 864000000 ∧ 0 < v.cycles ∧ v.cycles - 1 < v.cycles ∧ 500 ≤ 500 := by decide

/-! ### Witnesses: conversion slots -/

/-- What is gathered for a check pair with this opening number. -/
def ringed0 (serial : Nat) : PairWork := { work0 (some .a) with pair := { pair0 .check with serial := serial } }

/-- A slot outside windows whose conversion delivers this tag's sample, or discards the first one. -/
def outside (delivered : Tag) (discard : Bool) : State :=
  let s := slot0 .noWindow (tag0 .outi .noWindow 2 true) delivered none none
  { s with acq := { s.acq with discardFirst := discard } }

theorem witness_ConversionSlotOutsideWindows :
    ∀ s ∈ [outside (tag0 .outv .noWindow 1 true) true, outside (tag0 .outv .noWindow 1 true) false,
        outside (tag0 .outi .noWindow 1 false) false],
      s.acq.running = true ∧ 5 ≤ (s.timer.elapsed + 4294967296 - s.acq.slotStart) % 4294967296 ∧
        s.acq.slot = some (tag0 .outi .noWindow 2 true) ∧ s.timer.window = .noWindow ∧ s.timer.pair = none ∧
        s.acq.flushing = none ∧
        (s.acq.discardFirst = true ∨
          s.acq.discardFirst = false ∧ ∃ c ∈ s.acq.pipe, c.tag.role = .noWindow) := by decide

/-- NONE samples of the three channels, delivered at the end of slot 0 of an on-reference window and at the end of a slot outside windows,
and samples of a pair that a step abandoned: an on-reference one, a PSP one of the off window, and a switch-verify sample at the offset
of 20 above the switch-leak limit, with no pair and with a later pair in progress. -/
theorem witness_ConversionSlotOutsideWindows_more :
    (∀ s ∈ [slot0 .onReference (tag0 .psp .onReference 0 true) (tag0 .outi .noWindow 5 true) (some (ringed0 4)) none,
        slot0 .onReference (tag0 .psp .onReference 0 true) (tag0 .outv .noWindow 5 false) (some (ringed0 4)) none,
        slot0 .noWindow (tag0 .outi .noWindow 0 true) (tag0 .outi .onReference 7 true) none none,
        slot0 .noWindow (tag0 .outi .noWindow 0 true) (tag0 .psp .off 400 false) none none,
        slot0 .onReference (tag0 .psp .onReference 0 true) { tag0 .outi .off 7 false with offset := 20 } (some (ringed0 5)) none],
      s.acq.running = true ∧ 5 ≤ (s.timer.elapsed + 4294967296 - s.acq.slotStart) % 4294967296 ∧
        (∃ ended ∈ s.acq.slot, ∃ c ∈ s.acq.pipe, s.acq.flushing = none ∧ s.acq.discardFirst = false ∧
          (c.tag.role = .noWindow ∨ ∀ w ∈ s.acq.current, c.tag.pair ≠ some w.pair.serial) ∧
          ∀ w ∈ s.acq.current, ¬ (ended.role = .off ∧ ended.seq = 0 ∧ ended.pair = some w.pair.serial))) ∧
    run0.params.value 30 < run0.params.calibrate .outi 10000 := by decide

/-- The gathered work with a ring of this length. -/
def ringed (n : Nat) : PairWork := { work0 (some .a) with ring := List.replicate n ⟨-1000, 3⟩ }

/-- Samples of the three channels, SWITCH closed and open, at an empty and at a full ring. -/
theorem witness_OnReferenceSamplesAreSummed :
    ∀ x ∈ [(tag0 .psp .onReference 2 true, 0), (tag0 .psp .onReference 2 true, 64), (tag0 .outi .onReference 2 true, 3),
        (tag0 .outv .onReference 2 false, 3)],
      let s := slot0 .onReference (tag0 .psp .onReference 3 true) x.1 (some (ringed x.2)) none
      s.acq.running = true ∧ 5 ≤ (s.timer.elapsed + 4294967296 - s.acq.slotStart) % 4294967296 ∧
        s.acq.slot = some (tag0 .psp .onReference 3 true) ∧ s.acq.flushing = none ∧ s.acq.discardFirst = false ∧
        s.acq.pipe = some { tag := x.1, code := -7240 } ∧ x.1.role = .onReference ∧
        s.acq.current = some (ringed x.2) ∧ x.1.pair = some (ringed x.2).pair.serial ∧ (ringed x.2).ring.length ≤ 64 := by
  decide

theorem witness_OnReferenceReductionCompletes :
    ∀ y ∈ [(Channel.psp, 63, (-905 : Int), (-968 : Int), (50 : Int), (167 : Int)), (.psp, 64, -905, -968, 50, 167),
        (.outi, 64, 0, -1000, 33, 167), (.outv, 3, 0, -1000, 50, 125)],
    let ended := tag0 .psp .off 0 false
    let c : Conversion := { tag := tag0 y.1 .onReference 399 true, code := -7240 }
    let w := ringed y.2.1
    let s := slot0 .off ended c.tag (some w) none
    let x := y.2.2.1
    let psp : Sum := if y.1 = .psp then ⟨w.onSums.psp.total + x, w.onSums.psp.count + 1⟩ else w.onSums.psp
    let outi : Sum := if y.1 = .outi then ⟨w.onSums.outi.total + x, w.onSums.outi.count + 1⟩ else w.onSums.outi
    let outv : Sum := if y.1 = .outv then ⟨w.onSums.outv.total + x, w.onSums.outv.count + 1⟩ else w.onSums.outv
    s.acq.running = true ∧ 5 ≤ (s.timer.elapsed + 4294967296 - s.acq.slotStart) % 4294967296 ∧
      s.acq.slot = some ended ∧ ended.role = .off ∧ ended.seq = 0 ∧ ended.pair = some w.pair.serial ∧
      s.acq.flushing = none ∧ s.acq.discardFirst = false ∧ s.acq.pipe = some c ∧ c.tag.role = .onReference ∧
      c.tag.pair = some w.pair.serial ∧ s.acq.current = some w ∧ w.bank = some .a ∧
      (s.acq.bank .a).entries = [] ∧ w.ring.length ≤ 64 ∧ x = s.params.calibrate y.1 c.code ∧
      0 < psp.count ∧ 0 < outi.count ∧ 0 < outv.count ∧ Rounded psp.total psp.count y.2.2.2.1 ∧
      Rounded outi.total outi.count y.2.2.2.2.1 ∧ Rounded outv.total outv.count y.2.2.2.2.2 := by decide

/-- A slot in the off window that delivers this tag's sample for a bank with so many entries and a set with so many members. -/
def offSlot (delivered : Tag) (entries members : Nat) : State :=
  let w := { work0 (some .a) with offSet := ⟨-900, members, -905, -895⟩ }
  let s := slot0 .off (tag0 .psp .off 99 false) delivered (some w) none
  { s with acq := { s.acq with bankA := { s.acq.bankA with entries := List.replicate entries ⟨-900, 1⟩ } } }

/-- PSP samples at the settle time and one tick before it, at an empty and a full set, at a bank with one place and at a full one;
switch-verify samples at 20 ticks and before, and an OUTI slot that verifies nothing. -/
theorem witness_OffWindowSamples :
    ∀ x ∈ [({ tag0 .psp .off 98 false with offset := 500 }, 511, 0), ({ tag0 .psp .off 98 false with offset := 499 }, 512, 31),
        ({ tag0 .psp .off 98 false with offset := 500 }, 512, 32), ({ tag0 .outi .off 7 false with offset := 20 }, 5, 0),
        ({ tag0 .outi .off 7 false with offset := 19 }, 5, 0), ({ tag0 .outi .off 8 false with offset := 20 }, 5, 0)],
      let s := offSlot x.1 x.2.1 x.2.2
      s.acq.running = true ∧ 5 ≤ (s.timer.elapsed + 4294967296 - s.acq.slotStart) % 4294967296 ∧
        s.acq.slot = some (tag0 .psp .off 99 false) ∧ 0 < (tag0 .psp .off 99 false).seq ∧ s.acq.flushing = none ∧
        s.acq.discardFirst = false ∧ s.acq.pipe = some { tag := x.1, code := -7240 } ∧ x.1.role = .off ∧
        x.1.switchClosed = false ∧
        ∃ w ∈ s.acq.current, x.1.pair = some w.pair.serial ∧ w.bank = some .a := by decide

/-- Gathered work of a pair kind with so many set members of -905 mV each. -/
def offWork (kind : PairKind) (members : Nat) : PairWork :=
  { work0 (some .a) with pair := pair0 kind, offSet := ⟨-905 * members, members, -905, -905⟩ }

/-- The reduction that the flush slot hands over for this work. -/
def flushed (w : PairWork) : Reduction :=
  { kind := w.pair.kind, index := w.pair.index, survey := w.pair.survey, eOn := none, iOn := 0, vOn := 0
    eOff := if w.offSet.count = 0 then none else some (-905)
    spread := if w.offSet.count = 0 then 0 else w.offSet.high - w.offSet.low
    setCount := w.offSet.count, short := decide (w.offSet.count < 32), truncated := false, abandoned := false }

/-- A check and a survey pair; a set that this slot's delivery leaves empty, fills by one member, and finds full. -/
theorem witness_FlushSlotHandsOverReduction :
    ∀ x ∈ [({ tag0 .psp .off 400 false with offset := 499 }, { offWork .check 0 with offSet := ⟨0, 0, 0, 0⟩ }, offWork .check 0),
        (tag0 .psp .off 400 false, { offWork .survey 0 with offSet := ⟨0, 0, 0, 0⟩ }, offWork .survey 1),
        (tag0 .psp .off 400 false, offWork .check 32, offWork .check 32)],
      let ended := tag0 .outi .noWindow 0 true
      let s := slot0 .noWindow ended x.1 none (some x.2.1)
      let c : Conversion := { tag := x.1, code := -7240 }
      let d := s.deliver c
      let w := if x.2.2.offSet.count = 0 then x.2.1 else x.2.2
      s.acq.running = true ∧ 5 ≤ (s.timer.elapsed + 4294967296 - s.acq.slotStart) % 4294967296 ∧
        s.acq.slot = some ended ∧ ended.role ≠ .off ∧ s.acq.discardFirst = false ∧ s.acq.pipe = some c ∧
        d.acq.flushing = some w ∧ d.acq.pendingTake = false ∧ w.bank = some .a ∧
        (d.acq.bank .a).header = some (pair0 .check).header ∧
        (flushed w).eOn = w.figures.map (fun f => f.eOn) ∧ w.figures = none ∧
        (w.offSet.count = 0 → (flushed w).eOff = none ∧ (flushed w).spread = 0) ∧
        (0 < w.offSet.count → (flushed w).spread = w.offSet.high - w.offSet.low ∧ (flushed w).eOff = some (-905) ∧
          Rounded w.offSet.total w.offSet.count (-905)) ∧
        (flushed w).short = decide (w.offSet.count < s.params.nat 12) ∧
        (flushed w).truncated = (pair0 .check).header.truncated := by decide

/-- The flush slot with a pair that waits for a bank while the other bank is held, and with a stuck-switch report at its delivery (a raw
code of 10,000 is 6,104 mA, above the switch-leak limit of 200 mA) and a value at the limit. -/
theorem witness_FlushSlotHandsOverReduction_more :
    (let s := slot0 .noWindow (tag0 .outi .noWindow 0 true) (tag0 .psp .off 400 false) (some (work0 none)) (some (offWork .check 32))
      let waiting : State :=
        { s with acq := { s.acq with pendingTake := true, bankB := { state := .held, header := none, entries := [] } } }
      let d := waiting.deliver { tag := tag0 .psp .off 400 false, code := -7240 };
      RecordsLaw s ∧ d.acq.flushing = some (offWork .check 32) ∧ d.acq.pendingTake = true ∧ d.acq.current ≠ none ∧
        (d.acq.bank BankId.a.other).state = .held ∧ (d.acq.bank .a).header = some (pair0 .check).header) ∧
    (let c : Conversion := { tag := { tag0 .outi .off 7 false with offset := 20 }, code := 10000 };
      c.tag.channel = .outi ∧ c.tag.role = .off ∧ c.tag.seq % 8 = 7 ∧ 20 ≤ c.tag.offset ∧
        run0.params.value 30 < run0.params.calibrate .outi c.code) ∧
    ¬ run0.params.value 30 < run0.params.calibrate .outi 327 := by decide

/-- Calibration at halves, which move away from zero, and at a negative code. -/
theorem witness_CalibrationRules :
    ∀ ps ∈ ([defaultParams] : List Params),
      Rounded (4 * (10000 + ps.value 15)) 80000 1 ∧ Rounded (-4 * (10000 + ps.value 15)) 80000 (-1) ∧
        Rounded ((if (-1 : Int) < 0 then 0 else -1) * ps.nat 21 * (10000 + ps.value 17)) 327680000 0 ∧
        Rounded (32767 * ps.nat 22 * (10000 + ps.value 19)) 327680000 49998 := by decide

/-! ### Witnesses: the drive controller and the regulator -/

theorem witness_VoltageBackoff_and_CurrentFilters :
    (drive0 .on).drive.state = .on ∧ (drive0 .ramping).drive.state = .ramping ∧ (drive0 .halted).drive.state = .halted ∧
      (drive0 .tripped).drive.state = .tripped ∧ (drive0 .lockout).drive.state = .lockout := by decide

/-- The three groups of drive states of a stuck-switch report. -/
theorem witness_StuckSwitchReport :
    (drive0 .halted).drive.state = .halted ∧ (drive0 .tripped).drive.state = .tripped ∧
      (drive0 .lockout).drive.state = .lockout := by decide

/-- RAMPING at this demand, with a ramp tick due. -/
def ramping0 (demand : Nat) : State :=
  { run0 with drive := { (drive0 .ramping).drive with demand := demand, rampTarget := 410, rampTimer := 1000 } }

/-- A ramp tick short of the cap and one that reaches it (the ramp step is 20 codes), and a retry expiry. -/
theorem witness_RampTickAndRetryExpiry :
    (∀ s ∈ [ramping0 389, ramping0 390], s.drive.state = .ramping ∧ s.drive.rampTimer = 1000) ∧
      min ((ramping0 389).drive.demand + (ramping0 389).params.nat 27) 410 ≠ 410 ∧
      min ((ramping0 390).drive.demand + (ramping0 390).params.nat 27) 410 = 410 ∧
      ∀ s ∈ ([{ run0 with drive := { (drive0 .tripped).drive with retry := some 300000 } }] : List State),
        s.drive.state = .tripped ∧ s.drive.retry = some s.timer.elapsed := by decide

theorem witness_OutputOn_OutputOff_ClearFault :
    ∀ d ∈ [DriveState.halted, .ramping, .on, .tripped, .lockout],
      (drive0 d).port.part = .running ∧ (drive0 d).port.state ≠ .replying ∧ (drive0 d).drive.state = d := by decide

/-- ON with the drive ON at the on-reference start, and this peer. -/
def reading (p : Peer) : State :=
  { run0 with drive := (drive0 .on).drive, reg := { Reg.reset with iSet := 4200, driveAtOnRef := true }, peers := [p] }

/-- Each of the five hold reasons, the first that applies. -/
theorem witness_HeldReading :
    ∀ x ∈ [(drive0 .halted, reduction0 (-905) 41, HoldReason.drive),
        (reading (peer 205 0), { reduction0 (-905) 41 with abandoned := true }, .abandoned),
        ({ reading (peer 205 0) with timer := { run0.timer with plan := .survey } }, reduction0 (-905) 41, .survey),
        ({ reading { peer 205 0 with chainage := 1780 } with timer := { run0.timer with tally := 4 } },
          reduction0 (-905) 41, .unsyncPeer),
        (reading { peer 212 0 with plan := .survey }, reduction0 (-905) 41, .unsyncPeer),
        (reading { peer 205 0 with chainage := 1781 }, reduction0 (-905) 41, .stray),
        (reading (peer 212 0), { reduction0 (-905) 40 with short := true }, .stray)],
      let s := x.1
      let r := x.2.1
      RecordsLaw s ∧
      (if decide (s.reg.driveAtOnRef = false ∨ s.drive.state ≠ .on) = true then some HoldReason.drive
        else if r.abandoned = true then some .abandoned
        else if s.timer.plan = .survey then some .survey
        else if ∃ p ∈ s.peers, (s.timer.tally + 65536 - p.lastHeard) % 65536 ≤ 2 ∧
            span s p.chainage ≤ s.params.nat 41 ∧ (¬ SynchronizedPeer s p ∨ p.plan ≠ s.timer.plan) then some .unsyncPeer
        else if s.params.value 14 < r.spread ∨ r.short = true then some .stray
        else none) = some x.2.2 := by decide

/-- `case1` with this setpoint, backoff and mode. -/
def case2 (iSet : Int) (backoff : Nat) (mode : Int) : State :=
  { case1 with
    reg := { case1.reg with iSet := iSet }
    drive := { case1.drive with backoff := backoff }
    port := { case1.port with params := case1.port.params.set 30 mode } }

/-- Section 7.5.1's case 1; an error on the deadband; SHORT in FIXED, under VLIMIT and at I_ceil; EXCESS at I_floor. In each the one
peer has an assist term of 18 mV. -/
theorem witness_ValidReading :
    ∀ x ∈ [(case2 4200 0 0, (905 : Int), (1890 : Int), (5200 : Int), 1065), (case2 4200 0 0, 963, 0, 4200, 860),
        (case2 4200 0 1, 849, 3570, 4200, 860), (case2 4200 1 0, 849, 3570, 4200, 860),
        (case2 11500 0 0, 849, 3570, 12000, 2457), (case2 500 0 0, 1151, -5490, 0, 0)],
      let s := x.1
      let depth := x.2.1
      let raw := x.2.2.1
      let iNew := x.2.2.2.1
      let code := x.2.2.2.2
      let r := reduction0 (-depth) 40
      let goal : Int := max (s.params.value 33) (min (s.params.value 34)
        (s.params.value 32 + min (18 : Int) (s.params.value 42) - min (0 : Int) (s.params.value 43)))
      RecordsLaw s ∧ s.reg.driveAtOnRef = true ∧ s.drive.state = .on ∧ r.abandoned = false ∧ s.timer.plan = .steady ∧
        (∀ p ∈ s.peers, SynchronizedPeer s p ∧ p.plan = .steady ∧ p.condition = .short ∧
          p.amount.getD 0 * (s.params.nat 41 - span s p.chainage) / (2 * s.params.nat 41) = 18) ∧
        r.spread ≤ s.params.value 14 ∧ r.short = false ∧ r.eOff = some (-depth) ∧
        s.params.value 33 ≤ s.params.value 34 ∧ 0 ≤ s.params.value 37 ∧ s.params.value 38 ≤ s.params.value 39 ∧
        (if |goal - depth| ≤ s.params.value 36 then raw = 0 else Rounded ((goal - depth) * s.params.value 35) 16 raw) ∧
        iNew =
          (if s.params.value 31 = 1 then s.reg.iSet
            else max (s.params.value 38) (min (s.params.value 39) (s.reg.iSet +
              (if 0 < s.drive.backoff then min 0 (max (-s.params.value 37) (min (s.params.value 37) raw))
                else max (-s.params.value 37) (min (s.params.value 37) raw))))) ∧
        0 < s.params.nat 21 ∧ 0 ≤ iNew ∧ iNew ≤ s.params.nat 21 ∧
        (code : Int) * s.params.nat 21 * 2 ≤ iNew * 4095 * 2 + s.params.nat 21 ∧
        iNew * 4095 * 2 + s.params.nat 21 < ((code : Int) + 1) * s.params.nat 21 * 2 := by decide

/-! ### Witnesses: time pulses -/

/-- A pulse about to be recognized at this line time, in this timing state and streak, with this last pulse and pair. -/
def pulse0 (timing : TimingState) (streak : Nat) (last : Option Nat) (lineTime : Nat) (pair : Option Pair) : State :=
  { run0 with
    timer := { run0.timer with lineTime := lineTime, pair := pair }
    align := { run0.align with timing := timing, armed := true, highRun := 2, pulseStreak := streak, lastPulse := last } }

/-- The same at a station that may not anchor. -/
def barred (s : State) : State := { s with port := { s.port with params := s.port.params.set 4 0 } }

/-- No last pulse; spacings of 9,995 and 10,005; spacings of 9,994 and 10,006; the third pulse where no anchor may be entered; ANCHORED
without a last pulse and at spacings of 9,994 and 10,006. -/
theorem witness_TimePulseCounts :
    ∀ x ∈ [(pulse0 .acquire 0 none 300000 none, 1), (pulse0 .free 1 (some 290005) 300000 none, 2),
        (pulse0 .acquire 3 (some 289995) 300000 none, 3), (barred (pulse0 .tracking 2 (some 289995) 300000 none), 3),
        (pulse0 .tracking 3 (some 290006) 300000 none, 1), (pulse0 .free 2 (some 289994) 300000 none, 1),
        (pulse0 .anchored 3 none 304999 none, 1), (pulse0 .anchored 3 (some 290006) 304999 none, 1),
        (pulse0 .anchored 3 (some 289994) 304999 none, 1)],
      let s := x.1
      s.port.part = .running ∧ s.align.armed = true ∧ s.align.highRun = 2 ∧ s.align.pulseStreak ≤ 3 ∧
        (s.align.lastPulse = none ∧ x.2 = 1 ∨
          ∃ a ∈ s.align.lastPulse,
            9995 ≤ (s.timer.elapsed + 4294967296 - a) % 4294967296 ∧
                (s.timer.elapsed + 4294967296 - a) % 4294967296 ≤ 10005 ∧ x.2 = min 3 (s.align.pulseStreak + 1) ∨
              ((s.timer.elapsed + 4294967296 - a) % 4294967296 < 9995 ∨
                10005 < (s.timer.elapsed + 4294967296 - a) % 4294967296) ∧ x.2 = 1) ∧
        (s.align.timing = .acquire ∨
          (s.align.timing = .free ∨ s.align.timing = .tracking) ∧ (x.2 ≠ 3 ∨ s.params.value 5 ≠ 1) ∨
          s.align.timing = .anchored ∧ ∀ a ∈ s.align.lastPulse,
            (s.timer.elapsed + 4294967296 - a) % 4294967296 < 9995 ∨
              10005 < (s.timer.elapsed + 4294967296 - a) % 4294967296) := by decide

/-- ANCHORED at phase 0 and 4,999; an entry at phases 500 and -501, and with a pair in progress. -/
theorem witness_AnchorPulses :
    ∀ x ∈ [(pulse0 .anchored 3 (some 290000) 300000 none, (0 : Int)), (pulse0 .anchored 1 (some 290000) 304999 none, 4999),
        (pulse0 .anchored 3 (some 290000) 305000 (some (pair0 .check)), -5000),
        (pulse0 .free 2 (some 290005) 300500 none, 500), (pulse0 .tracking 3 (some 289995) 299499 none, -501),
        (pulse0 .free 2 (some 290000) 299499 (some (pair0 .check)), -501)],
      let s := x.1
      s.port.part = .running ∧ s.align.armed = true ∧ s.align.highRun = 2 ∧ s.timer.lineTime < 864000000 ∧
        (∃ a ∈ s.align.lastPulse, 9995 ≤ (s.timer.elapsed + 4294967296 - a) % 4294967296 ∧
          (s.timer.elapsed + 4294967296 - a) % 4294967296 ≤ 10005) ∧
        x.2 = (if s.timer.lineTime % 10000 < 5000 then ((s.timer.lineTime % 10000 : Nat) : Int)
          else ((s.timer.lineTime % 10000 : Nat) : Int) - 10000) ∧
        (s.align.timing = .anchored ∨
          (s.align.timing = .free ∨ s.align.timing = .tracking) ∧ (s.align.pulseStreak = 2 ∨ s.align.pulseStreak = 3) ∧
            s.params.value 5 = 1) := by decide

/-! ### Witnesses: the corridor link -/

/-- A waiting STATUS request and a waiting notice. -/
def waiting : List TxEntry := [.status, .notice (entry0 .active).copy]

/-- `run0` with the head in a transmitter state, this window, attempt count and level of CD. -/
def head0 (tx : TxState) (queue : List TxEntry) (window attempts : Nat) (cd : Bool) : State :=
  { run0 with
    lines := { cd := cd, tpi := false }
    link :=
      { run0.link with
        tx := tx, queue := queue, window := window, attempts := attempts, idleCount := 200, backoffEnd := 300000 } }

/-- The idle gap at W 16 and 64; the backoff end with CD inactive, and active at the seventh and eighth busy finding. -/
theorem witness_ChannelAccess :
    (∀ s ∈ [head0 .defer waiting 16 0 false, head0 .defer waiting 64 7 true],
      s.link.tx = .defer ∧ s.link.idleCount = 200 ∧ 0 < s.link.window) ∧
    ∀ x ∈ [(head0 .backoff waiting 16 0 false, false), (head0 .backoff [.status] 16 0 false, false),
        (head0 .backoff waiting 64 6 true, true), (head0 .backoff waiting 64 7 true, true),
        (head0 .backoff [.status] 64 7 true, true)],
      x.1.link.tx = .backoff ∧ x.1.link.backoffEnd = x.1.timer.elapsed ∧ x.1.link.queue ≠ [] ∧
        x.1.link.queue.head? = some .status ∧ x.1.lines.cd = x.2 ∧ x.1.link.attempts ≤ 7 := by decide

/-- `run0` in SENDING since this elapsed tick, with this frame. -/
def sending0 (keyStart : Nat) (frame : TxFrame) (queue : List TxEntry) : State :=
  { run0 with
    link :=
      { run0.link with tx := .sending, key := true, keyStart := keyStart, frame := some frame, queue := queue, rx := .off } }

/-- The stamp tick, in STEADY and while a survey is ACTIVE; the release of a frame of 16 body bytes and of one of 32. -/
theorem witness_SendingStatus :
    (∀ s ∈ [sending0 299634 { entry := .status, body := none } [],
        { sending0 299634 { entry := .status, body := none } [] with
          timer := { run0.timer with plan := .survey }
          survey := { table := [{ entry0 .active with endTime := some 400000 }], ownSeq := 1 } }],
      s.link.tx = .sending ∧ s.link.frame = some { entry := .status, body := none } ∧
        s.timer.plan = s.survey.planAt s.timer.lineTime ∧
        366 ≤ (s.timer.elapsed + 4294967296 - s.link.keyStart) % 4294967296) ∧
    ∀ x ∈ [(299284, 16, []), (299017, 32, waiting)],
      let body : List Byte := List.replicate x.2.1 0
      let s := sending0 x.1 { entry := .status, body := some body } x.2.2
      s.link.tx = .sending ∧ s.link.frame = some { entry := .status, body := some body } ∧
        300 + 25 * (72 + 8 * body.length) / 12 ≤ (s.timer.elapsed + 4294967296 - s.link.keyStart) % 4294967296 := by
  decide

/-- HUNT with 15 and with 16 bits; LENGTH, BODY and CHECK with 6 bits; LENGTH before the last bit of 16, of 32, of 15 and of 33; BODY
before the last byte but one and the last, and CHECK before its second byte. -/
theorem witness_ReceiverTakesFrames_bits :
    (∀ n ∈ [15, 16], (receiver0 .hunt (List.replicate n true) ⟨0, none, [], []⟩).bits.length ≤ 16) ∧
    (∀ rx ∈ [RxState.length, .body, .check], (receiver0 rx (List.replicate 6 true) ⟨0, some 16, [], []⟩).bits.length < 7) ∧
    (∀ b ∈ ([16, 32, 15, 33] : List Byte),
      let l := receiver0 .length ((byteBits b).take 7) ⟨0, none, [], []⟩
      l.bits.length = 7 ∧ l.bits ++ [b.getLsbD 0] = [7, 6, 5, 4, 3, 2, 1, 0].map (fun i => b.getLsbD i)) ∧
    (∀ b ∈ ([16, 32] : List Byte), 16 ≤ b.toNat ∧ b.toNat ≤ 32) ∧
    (∀ b ∈ ([15, 33] : List Byte), b.toNat < 16 ∨ 32 < b.toNat) ∧
    (∀ k ∈ [14, 15],
      let f : RxFrame := ⟨0, some 16, List.replicate k 0, []⟩
      (receiver0 .body (List.replicate 7 true) f).bits.length = 7 ∧ f.length = some 16 ∧ f.body.length < 16) ∧
    (⟨0, some 16, List.replicate 16 0, [0xAB]⟩ : RxFrame).crc.length < 2 := by decide

/-- The sync pattern in HUNT; length bytes 15 and 33 taken; a CRC that differs; a body of message type 0. -/
theorem witness_ReceiverTakesFrames :
    (∀ s ∈ ([{ run0 with link := { run0.link with bits := wordBits 0xE4B1 } }] : List State),
      s.link.rx = .hunt ∧ s.link.bits =
        [true, true, true, false, false, true, false, false, true, false, true, true, false, false, false, true]) ∧
    (∀ b ∈ ([15, 33] : List Byte),
      (receiver0 .length (byteBits b) ⟨0, none, [], []⟩).bits = [7, 6, 5, 4, 3, 2, 1, 0].map (fun i => b.getLsbD i) ∧
        (b.toNat < 16 ∨ 32 < b.toNat)) ∧
    (∀ body ∈ ([List.replicate 16 0] : List (List Byte)),
      FrameTaken (receivedWith run0 body (crcOf body + 1)) body (crcOf body + 1) 7312417 ∧
        crcOf body + 1 ≠ crc16 (BitVec.ofNat 8 body.length :: body) ∧
        FrameArrives (received run0 body) body (crcOf body) 7312417 ∧ parseAir body = none) := by decide +kernel

/-- START in SETUP leaves SETUP, so that its plan tag is computed. -/
theorem witness_CrcAndPlanTag :
    exec .start setup0 = .next (after .start setup0) ∧ setup0.port.part = .setup ∧
      (after .start setup0).port.part = .running :=
  ⟨rfl, rfl, by decide⟩

/-- A STATUS frame with the fewest fields, and one with the most. -/
def statuses : List Status :=
  [{ frame213 4000 65535 .acquire with
      condition := .normal, amount := none, depth := none, root := 4000, stamp := 863999999, current := 62500 },
    { frame213 1 0 .anchored with
      condition := .hold, holdReason := some .stray, amount := none, depth := some (-4000), plan := .survey
      survey := some ⟨4000, 255⟩, root := 0 }]

/-- A START notice and a HALT notice. -/
def notices : List Notice := [notice0 4000 15 (.start survey0), notice0 1 0 (.halt 863900000)]

theorem witness_AirFramesRoundTrip :
    (∀ f ∈ statuses, f.WellFormed ∧ f.station < 65536 ∧ f.chainage < 65536 ∧ (∀ i ∈ f.survey, i.seq < 256) ∧
      parseAir f.enc = some (.status f)) ∧
    ∀ n ∈ notices, n.WellFormed ∧ n.spanTo < 65536 ∧ n.id.seq < 256 ∧ parseAir n.enc = some (.notice n) := by
  decide +kernel

/-- A part that sends this frame, this many ticks after its preamble's start. -/
def onAir (body : Option (List Byte)) (ticks : Nat) : State :=
  { run0 with
    timer := { run0.timer with elapsed := 300 + ticks }
    link := { run0.link with tx := .sending, keyStart := 0, frame := some { entry := .status, body := body } } }

/-- R64, R72: the first sync bit leaves in the tick at 66 ticks after the preamble's start, whose start still shows the preamble's last
bit (log 35); then 1110, and after the frame the idle level. -/
theorem test_txLine :
    ([0, 1, 2, 3, 66, 67, 69, 71, 73, 75, 417].map fun ticks => (onAir (some (List.replicate 16 0)) ticks).txLine) =
      [true, true, true, false, false, true, true, true, false, false, true] ∧ run0.txLine = true := by decide +kernel

/-- The bit on the air at its first and last tick, at the first bit, at the first of the sync pattern, and past the frame's end. -/
theorem witness_AirFramesRoundTrip_more :
    (∀ x ∈ [(0, 0), (2, 0), (3, 1), (66, 31), (67, 32), (500, 240)],
      ∃ s ∈ [onAir (some (List.replicate 16 0)) x.1], s.link.tx = .sending ∧
        (s.timer.elapsed + 4294967296 - s.link.keyStart) % 4294967296 = 300 + x.1 ∧ 25 * x.2 ≤ 12 * x.1 ∧
        12 * x.1 < 25 * (x.2 + 1)) ∧
    (∀ s ∈ [onAir none 66], s.link.tx = .sending ∧ 25 * 31 ≤ 12 * 66 ∧ 12 * 66 < 25 * 32) ∧ run0.link.tx ≠ .sending := by decide

/-! ### Witnesses: the peer table -/

/-- A running part with one peer, whose heard count this is. -/
def hearing (heard : Nat) (timing : TimingState) : State :=
  { run0 with
    align := { run0.align with timing := timing }
    peers := [{ peer 212 3 with station := 213, chainage := 1600, heardCount := heard }] }

/-- The own number; the first distance beyond the hearing span; a known sender at heard counts 7 and 255; a new sender at the hearing
span; and in ACQUIRE a sender whose plan differs and one that is itself in ACQUIRE. -/
theorem witness_StatusFrameAdmission :
    (∀ f ∈ [frame213 212 1480 .free],
      let s := received (hearing 7 .free) f.enc
      FrameArrives s f.enc (crcOf f.enc) 7312417 ∧ parseAir f.enc = some (.status f) ∧ f.station = s.params.nat 1) ∧
    (∀ f ∈ [frame213 213 1881 .free],
      let s := received (hearing 7 .free) f.enc
      FrameArrives s f.enc (crcOf f.enc) 7312417 ∧ parseAir f.enc = some (.status f) ∧ f.station ≠ s.params.nat 1 ∧
        s.params.nat 3 < span s f.chainage) ∧
    ∀ x ∈ [(frame213 213 1600 .free, hearing 7 .free), (frame213 213 1600 .free, hearing 255 .anchored),
        (frame213 218 1880 .tracking, hearing 7 .tracking),
        ({ frame213 218 1880 .free with planTag := 6 }, hearing 7 .acquire), (frame213 218 1080 .acquire, hearing 7 .acquire)],
      let f := x.1
      let s := received x.2 f.enc
      FrameArrives s f.enc (crcOf f.enc) 7312417 ∧ parseAir f.enc = some (.status f) ∧ f.station ≠ s.params.nat 1 ∧
        span s f.chainage ≤ s.params.nat 3 ∧ PeersLaw s ∧ s.peers.length < 8 ∧
        (s.align.timing ≠ .acquire ∨ f.planTag ≠ s.port.planTag ∨ f.timing = .acquire) := by decide +kernel

/-- Section 5.7: 216 is the farthest entry, and a sender at 379 and one at 380 knock at the full table. -/
theorem witness_FullTableReplacesFarthest :
    ∀ f ∈ [frame213 204 1101 .free, frame213 209 1100 .free],
      let s := received { run0 with peers := table57 } f.enc
      ∃ q ∈ s.peers, FrameArrives s f.enc (crcOf f.enc) 7312417 ∧ parseAir f.enc = some (.status f) ∧ PeersLaw s ∧ s.peers.length = 8 ∧ f.station ≠ s.params.nat 1 ∧
        span s f.chainage ≤ s.params.nat 3 ∧ (∀ p ∈ s.peers, p.station ≠ f.station) ∧ q.station = 216 ∧
        (∀ p ∈ s.peers, span s p.chainage < span s q.chainage ∨
          (span s p.chainage = span s q.chainage ∧ p.station ≤ q.station)) ∧
        (span s f.chainage < span s q.chainage ∨ span s q.chainage ≤ span s f.chainage) := by decide +kernel

/-- A sender in each of the three timing states, at offsets +9 and 0. -/
theorem witness_AdoptionSteps :
    ∀ x ∈ [(frame213 213 1600 .free, (9 : Int)), (frame213 213 1600 .tracking, 9),
        ({ frame213 213 1600 .anchored with stamp := 7312357 }, 0)],
      let s := received { run0 with align := { run0.align with timing := .acquire } } x.1.enc
      FrameArrives s x.1.enc (crcOf x.1.enc) 7312417 ∧ parseAir x.1.enc = some (.status x.1) ∧ PeersLaw s ∧ s.peers.length < 8 ∧ x.1.station ≠ s.params.nat 1 ∧
        span s x.1.chainage ≤ s.params.nat 3 ∧ (∀ q ∈ s.peers, q.station ≠ x.1.station) ∧ s.align.timing = .acquire ∧
        x.1.planTag = s.port.planTag ∧ (x.1.timing = .free ∨ x.1.timing = .tracking ∨ x.1.timing = .anchored) ∧
        (writtenEntry s x.1 7312417 1).offset = x.2 := by decide +kernel

/-- A known sender at heard count 255, and one that replaces 216, the farthest entry of a full table. -/
theorem witness_AdoptionSteps_more :
    (∀ x ∈ [frame213 213 1600 .free],
      let s := received { hearing 255 .acquire with timer := { run0.timer with epochWork := .nothing } } x.enc
      FrameArrives s x.enc (crcOf x.enc) 7312417 ∧ parseAir x.enc = some (.status x) ∧ PeersLaw s ∧
        x.station ≠ s.params.nat 1 ∧ span s x.chainage ≤ s.params.nat 3 ∧
        (∃ old ∈ s.peers, old.station = x.station ∧ old.heardCount = 255) ∧ s.align.timing = .acquire ∧
        x.planTag = s.port.planTag ∧ (writtenEntry s x 7312417 255).offset = 9) ∧
    (∀ x ∈ [frame213 204 1110 .free],
      let s := received { run0 with peers := table57, align := { run0.align with timing := .acquire } } x.enc
      FrameArrives s x.enc (crcOf x.enc) 7312417 ∧ parseAir x.enc = some (.status x) ∧ PeersLaw s ∧
        x.station ≠ s.params.nat 1 ∧ span s x.chainage ≤ s.params.nat 3 ∧ (∀ q ∈ s.peers, q.station ≠ x.station) ∧
        s.peers.length = 8 ∧ (∃ far ∈ s.peers, far.station = 216 ∧
          (∀ q ∈ s.peers, span s q.chainage < span s far.chainage ∨
            (span s q.chainage = span s far.chainage ∧ q.station ≤ far.station)) ∧
          span s x.chainage < span s far.chainage)) := by decide +kernel

/-! ### Witnesses: line surveys -/

/-- `run0` with this notice table. -/
def surveying (table : List SurveyEntry) : State := { run0 with survey := { table := table, ownSeq := 1 } }

/-- A START notice of an origin, of a survey of 160,000 ticks with this start line time. -/
def startNotice (origin start hops : Nat) : Notice :=
  notice0 origin hops (.start { survey0 with start := start, cycles := 8 })

/-- An entry of 212 for a survey from 200,000 to 360,000. -/
def adopted0 (state : EntryState) : SurveyEntry :=
  { entry0 state with params := some { survey0 with start := 200000, cycles := 8 }, endTime := some 360000 }

/-- A state at another line time. -/
def atTime (t : Nat) (s : State) : State := { s with timer := { s.timer with lineTime := t } }

/-- No adopted survey, an adopted one that loses and one that wins, a known identity, a full table; line time in the survey's first
tick, in its last, just past it, and just before its start; a span that ends at the own chainage and one that stops short of it; hops
0. -/
theorem witness_StartNoticeTaken :
    ∀ x ∈ [(atTime 200000 (surveying []), startNotice 211 200000 2), (atTime 359999 (surveying []), startNotice 211 200000 2),
        (atTime 360000 (surveying []), startNotice 211 200000 2), (atTime 199999 (surveying []), startNotice 211 200000 0),
        (surveying [], { startNotice 211 300000 2 with spanTo := 1480 }),
        (surveying [], { startNotice 211 300000 2 with spanTo := 1479 }),
        (surveying [adopted0 .active], startNotice 211 200000 2), (surveying [adopted0 .active], startNotice 213 200000 2),
        (surveying [{ adopted0 .ended with id := ⟨211, 9⟩ }], startNotice 211 200000 2),
        (surveying ((List.range 4).map fun k => { adopted0 .ended with id := ⟨300, k⟩ }), startNotice 211 200000 2)],
      let s := received x.1 x.2.enc
      FrameArrives s x.2.enc (crcOf x.2.enc) 7312417 ∧ parseAir x.2.enc = some (.notice x.2) ∧ (∀ e ∈ s.survey.adoptedEntry, e.params ≠ none) := by decide +kernel

/-- Both sides of each clause are met there: a new identity and a known one; a survey that concerns the station and one that does not
(its end, and a start 432,000,001 ticks on). -/
theorem witness_StartNoticeTaken_clauses :
    (∀ e ∈ (surveying [adopted0 .active]).survey.table, e.id ≠ (startNotice 211 200000 2).id) ∧
    (∃ e ∈ (surveying [{ adopted0 .ended with id := ⟨211, 9⟩ }]).survey.table, e.id = (startNotice 211 200000 2).id) ∧
    (∀ x ∈ [(200000, 200000, true), (359999, 200000, true), (360000, 200000, false), (300000, 432300000, true),
        (299999, 432300000, false)],
      let s := atTime x.1 run0
      let p := { survey0 with start := x.2.1, cycles := 8 }
      decide (NoticeWithin s p ∨ NoticeWaits s p) = x.2.2) := by decide

/-- An unknown identity, with and without hops; a halt already recorded; the first halt of entries that are SUPERSEDED and ENDED; of an
ACTIVE one at a halt that shortens its end and one tick before it; of a PENDING one before a halt that does not shorten it, and of an
ACTIVE one at such a halt. -/
theorem witness_HaltNoticeTaken :
    ∀ x ∈ [(300000, [], notice0 211 1 (.halt 300000)), (300000, [], notice0 211 0 (.halt 300000)),
        (300000, [{ adopted0 .active with id := ⟨211, 9⟩, halt := some 340000 }], notice0 211 1 (.halt 300000)),
        (300000, [{ adopted0 .superseded with id := ⟨211, 9⟩ }], notice0 211 1 (.halt 300000)),
        (300000, [{ adopted0 .ended with id := ⟨211, 9⟩ }], notice0 211 1 (.halt 300000)),
        (300000, [{ adopted0 .active with id := ⟨211, 9⟩ }], notice0 211 1 (.halt 300000)),
        (299999, [{ adopted0 .active with id := ⟨211, 9⟩ }], notice0 211 0 (.halt 300000)),
        (300000, [{ adopted0 .pending with id := ⟨211, 9⟩ }], notice0 211 1 (.halt 400000)),
        (400000, [{ adopted0 .active with id := ⟨211, 9⟩ }], notice0 211 1 (.halt 400000))],
      let s := received (atTime x.1 (surveying x.2.1)) x.2.2.enc
      FrameArrives s x.2.2.enc (crcOf x.2.2.enc) 7312417 ∧ parseAir x.2.2.enc = some (.notice x.2.2) ∧ NoticesLaw s := by decide +kernel

/-- The clauses of an adopted entry, at their boundaries: the halt a tick before the end and at it, before S and at it for a PENDING
entry whose end lies half a line day after S, the entry's end, and line time at the halt and a tick before it. -/
theorem witness_HaltNoticeTaken_clauses :
    (adopted0 .active).endTime = some ((200000 + 8 * 20000) % 864000000) ∧ 8 * 20000 ≤ 432000000 ∧
      before 359999 ((200000 + 8 * 20000) % 864000000) ∧ ¬ before 360000 ((200000 + 8 * 20000) % 864000000) ∧
      atOrPast 300000 300000 ∧ before 299999 300000 ∧ before 199999 200000 ∧ ¬ before 200000 200000 ∧
      ¬ before 199999 ((200000 + 432000000) % 864000000) := by decide

/-- The begin at a survey's first tick, in its last, and with a halt one tick on; the end at the end line time, at a halt that shortened
it, and at one that did not. -/
theorem witness_SurveyBeginAndEnd :
    (∀ x ∈ [(300000, 400000, none), (200001, 300001, none), (250000, 300001, some 300001)],
      let p : SurveyParams := { survey0 with start := x.1 }
      let e : SurveyEntry := { entry0 .pending with params := some p, endTime := some x.2.1, halt := x.2.2 }
      let s := surveying [e]
      s.survey.adoptedEntry = some e ∧ e.params = some p ∧ e.endTime = some x.2.1 ∧ p.start < 864000000 ∧
        e.state = .pending ∧ ¬ before x.2.1 p.start ∧ shifted s.timer.lineTime (-p.start) < shifted x.2.1 (-p.start) ∧
        ∀ h ∈ e.halt, before s.timer.lineTime h) ∧
    ∀ x ∈ [(200000, none), (200000, some 300001), (250000, some 300000), (200000, some 300000)],
      let p : SurveyParams := { survey0 with start := x.1 }
      let e : SurveyEntry := { entry0 .active with params := some p, endTime := some 300000, halt := x.2 }
      let s := surveying [e]
      s.survey.adoptedEntry = some e ∧ e.params = some p ∧ e.endTime = some 300000 ∧ p.start < 864000000 ∧
        (e.state = .active ∧ (e.halt = none ∨ 300000 = (p.start + p.cycles * p.cycle) % 864000000) ∧
            s.timer.lineTime = 300000 ∨
          e.halt = some 300000 ∧ atOrPast s.timer.lineTime 300000) := by decide

/-- The moves of an entry of S 200,000 and end 360,000, at their boundaries: ACTIVE at S and in the last tick, ENDED at the end, PENDING
a tick before S by a step back or a correction, ENDED by a step forward; and for N x C of half a line day a step back to 20 ticks past
the end, which R140 counts as waiting, against a correction to the same tick; and at a halt line time that shortened nothing, reached half
a line day off, ENDED. -/
theorem test_survey_moves :
    ([200000, 359999, 360000].map fun t => surveyPlaced (adopted0 .active) { survey0 with start := 200000, cycles := 8 } 360000 t
      (shifted t (-360000) ≤ 20)) = [.active, .active, .ended] ∧
    surveyPlaced (adopted0 .active) { survey0 with start := 200000, cycles := 8 } 360000 199999 False = .pending ∧
    surveyPlaced (adopted0 .pending) { survey0 with start := 200000, cycles := 8 } 360000 400000 False = .ended ∧
    surveyPlaced (adopted0 .active) { survey0 with start := 0, cycle := 200000, cycles := 2160 } 432000000 432000020 False =
      .pending ∧
    surveyPlaced (adopted0 .active) { survey0 with start := 0, cycle := 200000, cycles := 2160 } 432000000 432000020 True =
      .ended ∧
    ([432299999, 432300000].map fun h => surveyPlaced { adopted0 .active with halt := some h }
      { survey0 with start := 200000, cycles := 8 } 360000 300000 False) = [.active, .ended] ∧
    ([432299999, 432300000].map fun h => SurveyEntry.moved { adopted0 .active with halt := some h } .small 300000) =
      [.active, .ended] := by decide

/-- An adopted survey, PENDING and ACTIVE, at a merge, at an applied correction, at a pulse and at an adoption. -/
theorem witness_survey_moves :
    ∀ s ∈ [merging 9, corrected [200] 0 none, pulse0 .anchored 1 (some 290000) 304999 none,
        pulse0 .tracking 3 (some 289995) 299499 none, received run0 (frame213 213 1600 .free).enc],
      ∀ e ∈ [adopted0 .pending, adopted0 .active],
        let s := { s with survey := { table := [e], ownSeq := 1 } }
        s.survey.adoptedEntry = some e ∧ e.endTime = some 360000 ∧ ∃ p ∈ e.params, p.start < 864000000 := by decide

/-- The arguments of a SURVEY START at the lower ends of their ranges; the second at the upper. -/
def args0 : List SurveyArgs := [⟨2, 10000, 2000, 0, 0, 1, 1480, 1480, 1⟩, ⟨4320, 200000, 50000, 2, 20000, 2160, 0, 65535, 15⟩]

theorem witness_SurveyCommands :
    (∀ s ∈ [{ run0 with align := { run0.align with timing := .acquire } }, surveying [adopted0 .active], run0],
      s.port.part = .running ∧ s.port.state ≠ .replying) ∧
    (surveying [adopted0 .active]).align.timing ≠ .acquire ∧ (surveying [adopted0 .active]).survey.adoptedEntry ≠ none ∧
    run0.survey.adoptedEntry = none ∧
    (∀ a ∈ args0, ditherOfCode a.dither ≠ none ∧ 2 ≤ a.lead ∧ a.lead ≤ 4320 ∧ 10000 ≤ a.cycle ∧ a.cycle ≤ 200000 ∧
      2000 ≤ a.offLen ∧ a.offLen ≤ 50000 ∧ a.ditherSpan ≤ 20000 ∧ 1 ≤ a.cycles ∧ a.cycles ≤ 65535 ∧ 1 ≤ a.hops ∧
      a.hops ≤ 15 ∧ a.offLen + a.ditherSpan + 1500 ≤ a.cycle ∧ a.cycles * a.cycle ≤ 432000000 ∧
      a.spanFrom ≤ run0.params.nat 2 ∧ run0.params.nat 2 ≤ a.spanTo) ∧
    (∀ x ∈ [({ adopted0 .active with id := ⟨213, 1⟩ }, false, none), ({ adopted0 .active with halt := some 1 }, true, some 1),
        (adopted0 .pending, true, none)],
      (surveying [x.1]).survey.adoptedEntry = some x.1 ∧
        (x.1.id.origin = (surveying [x.1]).params.nat 1 ↔ x.2.1 = true) ∧ x.1.halt = x.2.2) := by decide

/-! ### Witnesses: captures, records and the port -/

/-- `run0` with banks in these states, bank A of three entries, and a pending take for the pair in progress. -/
def banks (a b : BankState) (newer : Option BankId) (take : Bool) : State :=
  { run0 with
    acq :=
      { run0.acq with
        bankA := { state := a, header := some (pair0 .check).header, entries := [⟨1, 0⟩, ⟨2, 1⟩, ⟨3, 2⟩] }
        bankB := { state := b, header := none, entries := [] }
        newer := newer
        current := if take then some (work0 none) else none
        pendingTake := take } }

/-- BUSY; EMPTY; a sealed bank alone and the newer of two; no held bank; a held bank with a start index at its last entry and one past
it, counts 1 and 32, and the refused 0 and 33; CLOSE without and with a pending take. -/
theorem witness_CaptureCommands :
    (∀ s ∈ [banks .held .free none false, banks .free .filling none false, banks .sealed .free none false], s.port.state ≠ .replying) ∧
    (banks .held .free none false).acq.bankA.state = .held ∧
    (∀ s ∈ [banks .free .filling none false],
      s.acq.bankA.state ≠ .held ∧ s.acq.bankB.state ≠ .held ∧ s.acq.bankA.state ≠ .sealed ∧ s.acq.bankB.state ≠ .sealed) ∧
    (∀ x ∈ [(banks .sealed .filling (some .a) false, BankId.a), (banks .sealed .sealed (some .b) false, .b)],
      (x.1.acq.bank x.2).state = .sealed ∧ (x.1.acq.bank x.2.other).state ≠ .held ∧
        ((x.1.acq.bank x.2.other).state = .sealed → x.1.acq.newer = some x.2)) ∧
    (∀ s ∈ [banks .held .filling none false], (s.acq.bank .a).state = .held ∧ (s.acq.bank BankId.a.other).state ≠ .held ∧
      (s.acq.bank .a).entries.length < 4 ∧ 3 ≤ (s.acq.bank .a).entries.length ∧ s.acq.pendingTake = false) ∧
    ∀ s ∈ [banks .held .filling none true], s.acq.pendingTake = true ∧ s.acq.current = some (work0 none) ∧
      (s.acq.bank BankId.a.other).state ≠ .free := by decide

/-- Every reason latched, and none. -/
theorem witness_ReadAttentionEmptiesTheSet :
    ∀ x ∈ [((0x7F : Byte), Attention.mk true true true true true true true),
        (0x00, Attention.mk false false false false false false false)],
      let s := { run0 with port := { run0.port with attention := x.2 } }
      s.port.state ≠ .replying ∧ x.1.getLsbD 0 = s.port.attention.records ∧ x.1.getLsbD 1 = s.port.attention.driveTrip ∧
        x.1.getLsbD 2 = s.port.attention.driveLockout ∧ x.1.getLsbD 3 = s.port.attention.timingLost ∧
        x.1.getLsbD 4 = s.port.attention.duplicateNumber ∧ x.1.getLsbD 5 = s.port.attention.regHold ∧
        x.1.getLsbD 6 = s.port.attention.survey ∧ x.1.getLsbD 7 = false := by decide

/-- A held check record. -/
def record0 : CycleRecord :=
  { kind := .check, index := 6, survey := none, eOn := some (-1100), eOff := some (-905), spread := 12, iOn := 4200, vOn := 9000
    setpoint := 4200, condition := .hold, holdReason := some .drive, vlimit := false, truncated := false, abandoned := false
    short := false, driveFlag := true, timing := .free, syncPeers := 1 }

/-- Counts 0 and 5, counts 1 and 4 at an empty queue and at one of two records. -/
theorem witness_ReadRecordsGivesOldest :
    run0.port.state ≠ .replying ∧ (0 < 1 ∨ 4 < 0) ∧ (5 < 1 ∨ 4 < 5) ∧ run0.records.queue = [] ∧
      ∀ s ∈ ([{ run0 with records := { queue := [record0, record0], discards := 3 } }] : List State),
        s.port.state ≠ .replying ∧ s.records.queue ≠ [] := by decide

/-- SETUP; parameter 1 (1 to 4,000) and parameter 26 (8 to 256, powers of two) at and beyond their ends; the last line time. -/
theorem witness_LoadAndSetCommands :
    setup0.port.part = .setup ∧ setup0.port.state ≠ .replying ∧ 45 < 46 ∧
      (∀ v ∈ ([1, 4000] : List Int), 1 ≤ v ∧ v ≤ 4000) ∧ (∀ v ∈ ([0, 4001] : List Int), v < 1 ∨ 4000 < v) ∧
      (∀ v ∈ ([8, 256] : List Int), 8 ≤ v ∧ v ≤ 256 ∧ (v = 8 ∨ v = 16 ∨ v = 32 ∨ v = 64 ∨ v = 128 ∨ v = 256)) ∧
      (∀ v ∈ ([24] : List Int), 8 ≤ v ∧ v ≤ 256 ∧ v ≠ 8 ∧ v ≠ 16 ∧ v ≠ 32 ∧ v ≠ 64 ∧ v ≠ 128 ∧ v ≠ 256) ∧
      863999999 < 864000000 ∧ 864000000 ≤ 864000000 := by decide

/-- SETUP with these parameters. -/
def setupWith (ps : Params) : State := { setup0 with port := { setup0.port with params := ps } }

/-- Conditions C1 to C6 of START, and C7 with its quotient written out (`witness_C7`). -/
def startConditions (ps : Params) : List Bool :=
  [decide (ps.value 1 ≠ 0), decide (ps.value 33 < ps.value 32 ∧ ps.value 32 < ps.value 34),
    decide (ps.value 38 ≤ ps.value 40 ∧ ps.value 40 ≤ ps.value 39 ∧ ps.value 39 ≤ ps.value 21),
    decide (ps.value 39 < ps.value 23 ∧ ps.value 23 * 4 ≤ ps.value 21 * 5), decide (ps.value 24 ≤ ps.value 22),
    decide (ps.nat 41 ≤ ps.nat 3), decide (ps.nat 11 + (ps.nat 12 * 8 + 6) / 7 * 5 ≤ ps.nat 10)]

theorem witness_C7 (n a b : Nat) :
    (∃ m, n * 8 ≤ m * 7 ∧ m * 7 < n * 8 + 7 ∧ a + m * 5 ≤ b) ↔ a + (n * 8 + 6) / 7 * 5 ≤ b := by
  constructor
  · rintro ⟨m, h1, h2, h3⟩
    omega
  · exact fun h => ⟨(n * 8 + 6) / 7, by omega, by omega, h⟩

/-- For each of C1 to C7 a record at which it is the first to fail, C6 and C7 by one unit; and one at which all hold. -/
theorem witness_StartBeginsRun :
    (∀ x ∈ ([(defaultParams, 1), (ps212.set 32 950, 2), (ps212.set 37 2001, 3), (ps212.set 22 25001, 4),
        (ps212.set 23 50001, 5), (ps212.set 40 401, 6), (ps212.set 9 684, 7), (ps212.set 9 685, 8)] : List (Params × Nat)),
      (setupWith x.1).port.part = .setup ∧ (setupWith x.1).port.state ≠ .replying ∧ SetupLaw (setupWith x.1) ∧
        (startConditions x.1).take (x.2 - 1) = List.replicate (x.2 - 1) true ∧
        (x.2 ≤ 7 → (startConditions x.1)[x.2 - 1]? = some false)) ∧
    ∀ ps ∈ ([ps212] : List Params), 0 ≤ ps.value 40 ∧ 0 < ps.value 21 ∧
      410 * ps.value 21 * 2 ≤ ps.value 40 * 4095 * 2 + ps.value 21 ∧
      ps.value 40 * 4095 * 2 + ps.value 21 < (410 + 1) * ps.value 21 * 2 := by decide

theorem witness_ReadingCommands :
    run0.port.state ≠ .replying ∧ setup0.port.state ≠ .replying ∧ run0.survey.adoptedEntry = none ∧
      (surveying [adopted0 .active]).survey.adoptedEntry = some (adopted0 .active) := by decide

theorem witness_PortBytesTakeCommand :
    run0.port.state = .idle ∧
      ∀ c ∈ [PortCommand.start, .loadParameter 255 2147483647, .loadParameter 0 (-2147483648), .setLineTime 4294967295],
        (rowOf c).wellFormed = true := by decide

/-- `run0` receiving, with this length byte and these bytes, the last byte at this elapsed tick. -/
def receiving0 (length : Option Nat) (bytes : List Byte) (lastByte : Nat) : State :=
  { run0 with port := { run0.port with state := .receiving, length := length, bytes := bytes, lastByte := lastByte } }

/-- `run0` replying to PART STATUS with an empty body since this elapsed tick. -/
def replying0 (replyTick : Nat) : State :=
  { run0 with
    port :=
      { run0.port with
        state := .replying, reply := some { code := .ok, command := 0x14, body := [] }, replyTick := replyTick } }

theorem witness_PortLossesAndRefusals :
    run0.port.state = .idle ∧ (0xA4 : Byte) ≠ 0xA5 ∧ (replying0 0).port.state = .replying ∧
    (receiving0 none [] 299999).port.state = .receiving ∧ (receiving0 none [] 299999).port.length = none ∧
    (∀ s ∈ [receiving0 (some 1) [0x14] 299999], s.port.state = .receiving ∧
      s.port.length = some s.port.bytes.length ∧ s.port.bytes ≠ [] ∧
      (0 : Byte) ≠ crc8 (BitVec.ofNat 8 s.port.bytes.length :: s.port.bytes)) ∧
    (∀ s ∈ [receiving0 (some 1) [] 299949], s.port.state = .receiving ∧
      51 ≤ (s.timer.elapsed + 4294967296 - s.port.lastByte) % 4294967296) ∧
    (∀ s ∈ [receiving0 (some 1) [0x16] 299999], s.port.state = .receiving ∧ s.port.bytes = 0x16 :: [] ∧
      s.port.length = some (1 + ([] : List Byte).length) ∧ ([] : List Byte).length ≠ 1) ∧
    (run0.port.state ≠ .replying ∧ (0x1C : Byte) ∉ knownCodes) ∧
    (setup0.port.state ≠ .replying ∧ setup0.port.part = .setup ∧
      PortCommand.surveyHalt.code ∈ ([0x20, 0x21, 0x22, 0x23, 0x24] : List Byte)) ∧
    (run0.port.part = .running ∧ PortCommand.start.code ∈ ([0x10, 0x12, 0x13] : List Byte)) ∧
    ∀ s ∈ [replying0 299986], s.port.reply = some { code := .ok, command := 0x14, body := [] } ∧
      (5 + ([] : List Byte).length) * 10000 ≤
        (s.timer.elapsed + 4294967296 - s.port.replyTick) % 4294967296 * 3840 := by decide +kernel

theorem witness_RecordIsFixedWhileRunning :
    run0.port.part = .running ∧ (∀ b, Instr.epochEnd ≠ .portByte b) ∧ exec .epochEnd run0 = .next (after .epochEnd run0) ∧
      exec (.portByte 0xA5) run0 = .next (after (.portByte 0xA5) run0) :=
  ⟨rfl, by simp, rfl, rfl⟩

/-! ### Witnesses: the laws -/

/-- A busy part: drive ON in an off window, a STATUS frame on air, a full peer table, an ACTIVE survey, records and attention. -/
def busy0 (rest : List Instr) : State :=
  { run0 with
    pending := rest
    timer := { run0.timer with pair := some (pair0 .check), window := .off }
    align := { run0.align with lowerStreak := 2, lostStreak := 5, pendingCorr := -20 }
    drive :=
      { (drive0 .on).drive with
        demand := 400, backoff := 10, openRun := 255, overRun := 1, retryCount := 2, cleanRun := some 200000 }
    reg := { Reg.reset with iSet := 12000, code := 4095 }
    link :=
      { run0.link with
        queue := waiting, tx := .sending, key := true, frame := some { entry := .status, body := none }, rx := .off }
    peers := table57
    survey := { table := [adopted0 .active], ownSeq := 1 }
    records := { queue := [record0], discards := 255 }
    port := { run0.port with attention := { Attention.empty with records := true }, attn := true } }

/-- A busy part, a part in FREE and a part in SETUP meet every law, so that the laws' premises hold together. -/
theorem witness_StepKeepsLaws_timer :
    ∀ s ∈ [busy0 [.lineTick quiet true, .restart], run0, setup0],
      SwitchLaw s ∧ WindowLaw s ∧ RetryLaw s ∧ TimeLaw s ∧ AlignLaw s ∧ SetpointLaw s := by decide

theorem witness_StepKeepsLaws_drive :
    ∀ s ∈ [busy0 [.lineTick quiet true, .restart], run0, setup0], DriveLaw s := by decide

theorem witness_StepKeepsLaws_setup :
    ∀ s ∈ [busy0 [.lineTick quiet true, .restart], run0, setup0], SetupLaw s := by decide

theorem witness_StepKeepsLaws_tables :
    ∀ s ∈ [busy0 [.lineTick quiet true, .restart], run0, setup0],
      AttnLaw s ∧ RecordsLaw s ∧ TxQueueLaw s ∧ AccessLaw s ∧ KeyLaw s ∧ PeersLaw s ∧ NoticesLaw s := by decide

theorem witness_StepKeepsLaws_record :
    ∀ s ∈ [busy0 [.lineTick quiet true, .restart], run0, setup0], ParamsLaw s := by decide

/-- They step, and RunningLaw holds in them. -/
theorem witness_StepKeepsLaws_steps :
    (∃ t, step (busy0 [.lineTick quiet true, .restart]) = .next t) ∧
      RunningLaw (busy0 [.lineTick quiet true, .restart]) ∧ RunningLaw setup0 :=
  ⟨⟨_, rfl⟩, fun _ => ⟨by decide, rfl, 300000, rfl, by decide, by decide⟩, fun h => absurd h (by decide)⟩

/-- A queue with nothing in it leaves the part idle, and the front command is the one that runs. -/
theorem test_queue_order :
    (match step { run0 with pending := [.offStart, .readAttention] } with
      | .next t => t.pending
      | _ => []) = [.readAttention] ∧ step run0 = .next run0 :=
  ⟨rfl, rfl⟩

/-- No command has a word: the decoder reads none, and nothing is put in front of the queue. -/
theorem test_no_words : decodeTableWord 8 0x14 = none ∧ State.reset.withFetchWord 8 0x14 = State.reset := ⟨rfl, rfl⟩

end Tests
end

/-! # The dither of R8

One equation per dither type (TRIANGLE by its rising and its falling half), then the range and the repeats from the equations. -/

namespace Sys2Proof.Machine

section Dither

variable (n span : Nat)

@[simp] theorem ditherAt_noDither : ditherAt .noDither n span = 0 := rfl

theorem ditherAt_pseudo : ditherAt .pseudo n span = (n * 40503 % 65536) * (span + 1) / 65536 := rfl

theorem ditherAt_triangle_rising (h : n % 16 ≤ 8) : ditherAt .triangle n span = n % 16 * span / 8 := by
  simp only [ditherAt, if_pos h]

theorem ditherAt_triangle_falling (h : 8 < n % 16) : ditherAt .triangle n span = (16 - n % 16) * span / 8 := by
  simp only [ditherAt, if_neg h.not_ge]

/-- The TRIANGLE factor s of R8 is at most 8, so its eighth of the span is at most the span. -/
theorem mul_span_div_eight_le {s : Nat} (h : s ≤ 8) : s * span / 8 ≤ span :=
  Nat.div_le_of_le_mul (Nat.mul_le_mul_right span h)

/-- The PSEUDO product modulo 65,536 is below 65,536, so the quotient is below D + 1 (R8). -/
theorem ditherAt_pseudo_le : ditherAt .pseudo n span ≤ span := by
  rw [ditherAt_pseudo]
  have hmod : n * 40503 % 65536 < 65536 := Nat.mod_lt _ (by decide)
  have hprod : n * 40503 % 65536 * (span + 1) < 65536 * (span + 1) :=
    Nat.mul_lt_mul_of_pos_right hmod span.succ_pos
  exact Nat.le_of_lt_succ (Nat.div_lt_of_lt_mul hprod)

theorem ditherAt_triangle_le : ditherAt .triangle n span ≤ span := by
  rcases le_or_gt (n % 16) 8 with hrise | hfall
  · rw [ditherAt_triangle_rising n span hrise]
    exact mul_span_div_eight_le span hrise
  · rw [ditherAt_triangle_falling n span hfall]
    exact mul_span_div_eight_le span (by omega)

theorem ditherAt_le (d : Dither) : ditherAt d n span ≤ span := by
  cases d with
  | noDither => exact span.zero_le
  | pseudo => exact ditherAt_pseudo_le n span
  | triangle => exact ditherAt_triangle_le n span

theorem ditherAt_triangle_of_mod_zero (h : n % 16 = 0) : ditherAt .triangle n span = 0 := by
  rw [ditherAt_triangle_rising n span (by omega), h, Nat.zero_mul]

theorem ditherAt_triangle_of_mod_eight (h : n % 16 = 8) : ditherAt .triangle n span = span := by
  rw [ditherAt_triangle_rising n span h.le, h, Nat.mul_div_cancel_left span (by decide)]

theorem ditherAt_triangle_add_period : ditherAt .triangle (n + 16) span = ditherAt .triangle n span := by
  simp only [ditherAt, Nat.add_mod_right]

theorem ditherAt_pseudo_add_period : ditherAt .pseudo (n + 65536) span = ditherAt .pseudo n span := by
  have hmod : (n + 65536) * 40503 % 65536 = n * 40503 % 65536 := by omega
  simp only [ditherAt_pseudo, hmod]

end Dither

/-- The off start of R9, with the notch parameters 7 to 9 named: the epoch number is the dither's index. -/
theorem notchPlan_offStart (ps : Params) (n : Nat) :
    ps.notchPlan.offStart n =
      n * 100000 + ps.nat 7 + ditherAt ((ditherOfCode (ps.nat 8)).getD .noDither) n (ps.nat 9) := rfl

/-- The off start of R11, before it is taken modulo the day: the cycle index is the dither's index. -/
theorem surveyParams_offStart (p : SurveyParams) (k : Nat) :
    p.offStart k = p.start + k * p.cycle + p.cycle - p.offLen - ditherAt p.dither k p.ditherSpan := rfl

/-- Settles O15, from the equations of each dither type and the off starts of R9 and R11. -/
theorem ditherRule : Obligations.DitherRule :=
  ⟨ditherAt_noDither, ditherAt_pseudo, ditherAt_triangle_rising, ditherAt_triangle_falling,
    fun d n span => ditherAt_le n span d, ditherAt_triangle_of_mod_zero, ditherAt_triangle_of_mod_eight,
    ditherAt_triangle_add_period, ditherAt_pseudo_add_period, notchPlan_offStart, surveyParams_offStart⟩

end Sys2Proof.Machine

/-! # OUTPUT ON (R59)

The effect of each output command in each drive state, what a taken command's reply keeps, and what a halted drive does with a code.
-/

namespace Sys2Proof.Machine

open Sys2Proof.Safety

section OutputOn

variable {s : State}

/-- An entry to RAMPING sets SWITCH by the window state alone (R41, R44). -/
theorem State.withDrive_enterRamping (s : State) (d : Drive) :
    s.withDrive d.enterRamping = { s with drive := rampBegun s d } := by
  have hswitch : switchFor .ramping s.timer.window = decide (s.timer.window ≠ .off) := by simp [switchFor]
  rw [rampBegun, ← hswitch]
  rfl

theorem State.withDrive_setpointCode (s : State) (d : Drive) : (s.withDrive d).drive.setpointCode = d.setpointCode := rfl

theorem Drive.shutDown_setpointCode (d : Drive) (goal : DriveState) : (d.shutDown goal).setpointCode = d.setpointCode := rfl

/-- A halted drive stores the code it is handed and does nothing more with it (R43). -/
theorem Drive.takeCode_of_halted {d : Drive} (h : d.state = .halted) (code : Nat) :
    d.takeCode code = { d with setpointCode := code } := by
  simp [Drive.takeCode, Drive.follow, h]

theorem State.outputOn_of_halted (h : s.drive.state = .halted) :
    s.outputOn = { s with drive := rampBegun s { s.drive with retryCount := 0 } }.accept [] := by
  rw [State.outputOn, h, ← State.withDrive_enterRamping]

theorem State.outputOn_of_not_halted (h : s.drive.state ≠ .halted) : s.outputOn = s.refuse .state := by
  unfold State.outputOn
  cases hd : s.drive.state with
  | halted => exact absurd hd h
  | ramping | on | tripped | lockout => rfl

theorem State.outputOff_setpointCode (s : State) : s.outputOff.state.drive.setpointCode = s.drive.setpointCode := by
  unfold State.outputOff
  cases s.drive.state with
  | ramping | on | tripped => exact (s.withDrive_setpointCode _).trans (s.drive.shutDown_setpointCode .halted)
  | halted | lockout => rfl

/-- The reply changes nothing of the drive, so a taken command leaves it as its effect does. -/
theorem takeCommand_drive {c : PortCommand} (hc : c.allowedIn s.port.part = true) :
    (s.takeCommand c).drive = (s.perform c).state.drive := by
  simp [State.takeCommand, hc]

theorem outputOn_allowedIn_iff (part : PartState) : PortCommand.outputOn.allowedIn part = true ↔ part = .running :=
  decide_eq_true_iff

theorem outputOff_allowedIn_iff (part : PartState) : PortCommand.outputOff.allowedIn part = true ↔ part = .running :=
  decide_eq_true_iff

theorem exec_outputOn (h : s.port.state ≠ .replying) : exec .outputOn s = .next (s.takeCommand .outputOn) :=
  portRow_next .outputOn s h

theorem exec_outputOff (h : s.port.state ≠ .replying) : exec .outputOff s = .next (s.takeCommand .outputOff) :=
  portRow_next .outputOff s h

/-- An OUTPUT ON that is taken is answered as `State.outputOn` says, if that leaves the port's own reply. -/
theorem takeCommand_outputOn_answers (hpart : s.port.part = .running) {a : Answer} (ha : s.outputOn = a)
    (hport : SameReply s a.state) :
    Answers s (s.takeCommand .outputOn) 0x23 a.code a.body a.state := by
  subst ha
  exact takeCommand_answers ((outputOn_allowedIn_iff _).mpr hpart) hport

end OutputOn

/-- Settles O27: the two outcomes from the effect of OUTPUT ON by drive state, and the codes from what a halted drive and OUTPUT OFF
keep of the setpoint code. -/
theorem outputOnOutcomes : Obligations.OutputOnOutcomes := by
  intro s hpart hport
  refine ⟨fun hd => ?_, fun hd => ?_, fun code hd => Drive.takeCode_of_halted hd code, fun t ht => ?_⟩
  · exact ⟨_, exec_outputOn hport,
      takeCommand_outputOn_answers hpart (State.outputOn_of_halted hd) ⟨rfl, rfl, rfl, rfl, rfl⟩⟩
  · exact ⟨_, exec_outputOn hport,
      takeCommand_outputOn_answers hpart (State.outputOn_of_not_halted hd) ⟨rfl, rfl, rfl, rfl, rfl⟩⟩
  · rw [exec_outputOff hport] at ht
    injection ht with ht
    rw [← ht, takeCommand_drive ((outputOff_allowedIn_iff _).mpr hpart)]
    exact s.outputOff_setpointCode

end Sys2Proof.Machine

/-! # READ ATTENTION and READ RECORDS (R163, R167)

What a latch does to the attention set and the attention byte says of it, where an encoded field is read back, and the effect of
the two commands.
-/

namespace Sys2Proof.Machine

open Sys2Proof.Safety

section CommandAnswers

variable {s : State}

theorem SameReply.refl (s : State) : SameReply s s := ⟨rfl, rfl, rfl, rfl, rfl⟩

/-- A command allowed in the part state, with the answer of its effect named. -/
theorem takeCommand_answers_of_perform {c : PortCommand} (hc : c.allowedIn s.port.part = true) {a : Answer}
    (ha : s.perform c = a) (hport : SameReply s a.state) :
    Answers s (s.takeCommand c) c.code a.code a.body a.state := by
  subst ha
  exact takeCommand_answers hc hport

theorem exec_readAttention (h : s.port.state ≠ .replying) :
    exec .readAttention s = .next (s.takeCommand .readAttention) :=
  portRow_next .readAttention s h

theorem exec_readRecords (n : Nat) (h : s.port.state ≠ .replying) :
    exec (.readRecords n) s = .next (s.takeCommand (.readRecords n)) :=
  portRow_next (.readRecords n) s h

/-- READ RECORDS is allowed in any part state, and answers as `State.readRecords` says if that leaves the port's own reply. -/
theorem takeCommand_readRecords_answers {n : Nat} {a : Answer} (ha : s.readRecords n = a) (hport : SameReply s a.state) :
    Answers s (s.takeCommand (.readRecords n)) 0x16 a.code a.body a.state :=
  takeCommand_answers_of_perform (c := .readRecords n) rfl ha hport

end CommandAnswers

section AttentionSet

/-- A latch puts its reason in the set and leaves the other reasons as they are (R164). -/
theorem Attention.has_latch (a : Attention) (r q : Reason) : (a.latch r).has q = (a.has q || decide (q = r)) := by
  cases r <;> cases q <;> simp [Attention.latch, Attention.has]

theorem Attention.has_empty (q : Reason) : Attention.empty.has q = false := by
  cases q <;> rfl

theorem State.latch_attention (s : State) (r : Reason) : (s.latch r).port.attention = s.port.attention.latch r := rfl

theorem State.latch_attn (s : State) (r : Reason) : (s.latch r).port.attn = true := rfl

/-- The bits of the attention byte (section 11.2): each reason is one, and bit 7 is none's. -/
abbrev Attention.HasBits (a : Attention) (b : Byte) : Prop :=
  b.getLsbD 0 = a.records ∧ b.getLsbD 1 = a.driveTrip ∧ b.getLsbD 2 = a.driveLockout ∧ b.getLsbD 3 = a.timingLost ∧
    b.getLsbD 4 = a.duplicateNumber ∧ b.getLsbD 5 = a.regHold ∧ b.getLsbD 6 = a.survey ∧ b.getLsbD 7 = false

theorem Attention.hasBits_code (a : Attention) : a.HasBits (BitVec.ofNat 8 a.code) := by
  obtain ⟨records, driveTrip, driveLockout, timingLost, duplicateNumber, regHold, survey⟩ := a
  revert records driveTrip driveLockout timingLost duplicateNumber regHold survey
  decide

/-- The bits determine the byte. -/
theorem Attention.HasBits.ofNat_code_eq {a : Attention} {b : Byte} (hb : a.HasBits b) : BitVec.ofNat 8 a.code = b := by
  obtain ⟨b0, b1, b2, b3, b4, b5, b6, b7⟩ := hb
  obtain ⟨c0, c1, c2, c3, c4, c5, c6, c7⟩ := a.hasBits_code
  refine BitVec.eq_of_getLsbD_eq fun i hi => ?_
  interval_cases i
  exacts [c0.trans b0.symm, c1.trans b1.symm, c2.trans b2.symm, c3.trans b3.symm, c4.trans b4.symm, c5.trans b5.symm,
    c6.trans b6.symm, c7.trans b7.symm]

end AttentionSet

theorem takeCommand_readAttention_answers (s : State) :
    Answers s (s.takeCommand .readAttention) 0x15 .ok [BitVec.ofNat 8 s.port.attention.code] s.clearAttention :=
  takeCommand_answers_of_perform (c := .readAttention) (a := s.readAttention) rfl rfl (SameReply.refl s)

theorem takeCommand_readAttention_attention (s : State) :
    (s.takeCommand .readAttention).port.attention = Attention.empty := rfl

/-- Settles O46: the byte of the reply is the attention byte, and after READ ATTENTION the set holds what is latched next alone. -/
theorem readAttentionEmptiesTheSet : Obligations.ReadAttentionEmptiesTheSet := by
  intro s b hport hb
  have hbyte : BitVec.ofNat 8 s.port.attention.code = b :=
    Attention.HasBits.ofNat_code_eq hb
  refine ⟨_, exec_readAttention hport, hbyte ▸ takeCommand_readAttention_answers s, fun r => ?_⟩
  refine ⟨by simp only [State.latch_frame], State.latch_attn _ r, fun q => ?_⟩
  rw [State.latch_attention, Attention.has_latch, takeCommand_readAttention_attention, Attention.has_empty, Bool.false_or]

section Fields

variable (n : Nat) (v : Int) (xs ys : List Byte)

@[simp] theorem length_enc8 : (enc8 n).length = 1 := by simp [enc8]
@[simp] theorem length_enc16 : (enc16 n).length = 2 := by simp [enc16]
@[simp] theorem length_enc32 : (enc32 n).length = 4 := by simp [enc32]
@[simp] theorem length_enc16s : (enc16s v).length = 2 := by simp [enc16s]
@[simp] theorem length_encId (id : Option SurveyId) : (encId id).length = 3 := by simp [encId, SurveyId.enc]
@[simp] theorem length_encHold (h : Option HoldReason) : (encHold h).length = 1 := by simp [encHold]

/-! A field that begins behind some bytes is read in what follows them. -/

theorem u8_append_right {i : Nat} (h : xs.length ≤ i) : u8 (xs ++ ys) i = u8 ys (i - xs.length) := by
  rw [u8, u8, List.getD_append_right _ _ _ _ h]

theorem u16_append_right {i : Nat} (h : xs.length ≤ i) : u16 (xs ++ ys) i = u16 ys (i - xs.length) := by
  rw [u16, u16, u8_append_right xs ys h, u8_append_right xs ys (by omega), Nat.sub_add_comm h]

theorem u32_append_right {i : Nat} (h : xs.length ≤ i) : u32 (xs ++ ys) i = u32 ys (i - xs.length) := by
  rw [u32, u32, u16_append_right xs ys h, u16_append_right xs ys (by omega), Nat.sub_add_comm h]

/-! An encoded field reads back, modulo its width. -/

theorem u8_enc8_append : u8 (enc8 n ++ ys) 0 = n % 256 := rfl

theorem u8_enc8 : u8 (enc8 n) 0 = n % 256 := rfl

theorem u16_enc16_append : u16 (enc16 n ++ ys) 0 = n % 65536 := by
  have hbytes : u16 (enc16 n ++ ys) 0 = n / 256 % 256 * 256 + n % 256 := rfl
  omega

theorem u32_enc32_append : u32 (enc32 n ++ ys) 0 = n % 4294967296 := by
  have hhigh : u16 (enc32 n ++ ys) 0 = n / 65536 % 65536 := by
    rw [enc32, List.append_assoc, u16_enc16_append]
  have hlow : u16 (enc32 n ++ ys) 2 = n % 65536 := by
    rw [enc32, List.append_assoc, u16_append_right _ _ (by simp), length_enc16, u16_enc16_append]
  rw [u32, hhigh, hlow]
  omega

theorem u16_enc16s_append : (u16 (enc16s v ++ ys) 0 : Int) = v % 65536 := by
  rw [enc16s, u16_enc16_append]
  omega

theorem u16_encId_append (id : Option SurveyId) :
    u16 (encId id ++ ys) 0 = (id.getD { origin := 0, seq := 0 }).origin % 65536 := by
  rw [encId, SurveyId.enc, List.append_assoc, u16_enc16_append]

theorem u8_encId_append (id : Option SurveyId) :
    u8 (encId id ++ ys) 2 = (id.getD { origin := 0, seq := 0 }).seq % 256 := by
  rw [encId, SurveyId.enc, List.append_assoc, u8_append_right _ _ (by simp), length_enc16, u8_enc8_append]

end Fields

section RecordQueue

variable {s : State} {n : Nat}

theorem State.readRecords_of_bad_count (h : n < 1 ∨ 4 < n) : s.readRecords n = s.refuse .value := by
  have hcount : ¬ (1 ≤ n ∧ n ≤ 4) := by omega
  rw [State.readRecords, if_pos hcount]

theorem State.readRecords_of_empty (h1 : 1 ≤ n) (h4 : n ≤ 4) (hqueue : s.records.queue = []) :
    s.readRecords n = s.refuse .empty := by
  have hempty : s.records.queue.isEmpty = true := List.isEmpty_iff.mpr hqueue
  rw [State.readRecords, if_neg (not_not_intro ⟨h1, h4⟩), if_pos hempty]

theorem State.readRecords_of_nonempty (h1 : 1 ≤ n) (h4 : n ≤ 4) (hqueue : s.records.queue ≠ []) :
    s.readRecords n =
      (s.setRecords { queue := s.records.queue.drop n, discards := 0 }).accept
        ([BitVec.ofNat 8 s.records.discards, BitVec.ofNat 8 (min n s.records.queue.length)] ++
          (s.records.queue.take n).flatMap CycleRecord.enc) := by
  have hempty : ¬ s.records.queue.isEmpty = true := fun h => hqueue (List.isEmpty_iff.mp h)
  rw [State.readRecords, if_neg (not_not_intro ⟨h1, h4⟩), if_neg hempty, ← List.length_take]
  rfl

end RecordQueue

section RecordFields

variable (r : CycleRecord)

/-! Every coded field is below 256, so that its byte reads back as the code itself. -/

theorem PairKind.code_eq (k : PairKind) : k.code = if k = .check then 1 else 2 := by
  cases k <;> rfl

theorem PairKind.code_lt (k : PairKind) : k.code < 256 := by
  cases k <;> decide

theorem Condition.code_lt (c : Condition) : c.code < 256 := by
  cases c <;> decide

theorem TimingState.code_lt (t : TimingState) : t.code < 256 := by
  cases t <;> decide

theorem holdCode_lt (h : Option HoldReason) : (h.map HoldReason.code).getD 0 < 256 := by
  cases h with
  | none => decide
  | some reason => cases reason <;> decide

theorem flagsCode_lt (vlimit truncated abandoned short drive : Bool) :
    flagsCode vlimit truncated abandoned short drive < 256 := by
  revert vlimit truncated abandoned short drive
  decide

theorem recordPresence_lt (eOn eOff hold : Bool) : eOn.toNat + eOff.toNat * 2 + hold.toNat * 4 < 256 := by
  revert eOn eOff hold
  decide

/-! The fields of a record's 26 bytes (section 11.5.1): the fields before one are skipped, and it reads back at its place. -/

theorem CycleRecord.length_enc : r.enc.length = 26 := by
  simp [CycleRecord.enc]

theorem CycleRecord.enc_kind : u8 r.enc 0 = if r.kind = .check then 1 else 2 := by
  have hcode : u8 r.enc 0 = r.kind.code % 256 := by simp [CycleRecord.enc, u8_enc8_append]
  rw [hcode, Nat.mod_eq_of_lt r.kind.code_lt, PairKind.code_eq]

theorem CycleRecord.enc_index : u16 r.enc 1 = r.index % 65536 := by
  simp [CycleRecord.enc, u16_append_right, u16_enc16_append]

theorem CycleRecord.enc_survey :
    u16 r.enc 3 = (r.survey.getD { origin := 0, seq := 0 }).origin % 65536 ∧
      u8 r.enc 5 = (r.survey.getD { origin := 0, seq := 0 }).seq % 256 := by
  simp [CycleRecord.enc, u16_append_right, u8_append_right, u16_encId_append, u8_encId_append]

theorem CycleRecord.enc_presence :
    u8 r.enc 6 = r.eOn.isSome.toNat + r.eOff.isSome.toNat * 2 + r.holdReason.isSome.toNat * 4 := by
  simp [CycleRecord.enc, u8_append_right, u8_enc8_append, Nat.mod_eq_of_lt (recordPresence_lt _ _ _)]

theorem CycleRecord.enc_eOn : (u16 r.enc 7 : Int) = r.eOn.getD 0 % 65536 := by
  simp [CycleRecord.enc, u16_append_right, u16_enc16s_append]

theorem CycleRecord.enc_eOff : (u16 r.enc 9 : Int) = r.eOff.getD 0 % 65536 := by
  simp [CycleRecord.enc, u16_append_right, u16_enc16s_append]

theorem CycleRecord.enc_spread : u16 r.enc 11 = r.spread.toNat % 65536 := by
  simp [CycleRecord.enc, u16_append_right, u16_enc16_append]

theorem CycleRecord.enc_iOn : u16 r.enc 13 = r.iOn.toNat % 65536 := by
  simp [CycleRecord.enc, u16_append_right, u16_enc16_append]

theorem CycleRecord.enc_vOn : u32 r.enc 15 = r.vOn.toNat % 4294967296 := by
  simp [CycleRecord.enc, u32_append_right, u32_enc32_append]

theorem CycleRecord.enc_setpoint : u16 r.enc 19 = r.setpoint.toNat % 65536 := by
  simp [CycleRecord.enc, u16_append_right, u16_enc16_append]

theorem CycleRecord.enc_condition : u8 r.enc 21 = r.condition.code := by
  simp [CycleRecord.enc, u8_append_right, u8_enc8_append, Nat.mod_eq_of_lt r.condition.code_lt]

theorem CycleRecord.enc_holdReason : u8 r.enc 22 = (r.holdReason.map HoldReason.code).getD 0 := by
  simp [CycleRecord.enc, u8_append_right, encHold, u8_enc8_append, Nat.mod_eq_of_lt (holdCode_lt r.holdReason)]

theorem CycleRecord.enc_flags :
    u8 r.enc 23 = flagsCode r.vlimit r.truncated r.abandoned r.short r.driveFlag := by
  simp [CycleRecord.enc, u8_append_right, u8_enc8_append, Nat.mod_eq_of_lt (flagsCode_lt _ _ _ _ _)]

theorem CycleRecord.enc_timing : u8 r.enc 24 = r.timing.code := by
  simp [CycleRecord.enc, u8_append_right, u8_enc8_append, Nat.mod_eq_of_lt r.timing.code_lt]

theorem CycleRecord.enc_syncPeers : u8 r.enc 25 = r.syncPeers % 256 := by
  simp [CycleRecord.enc, u8_append_right, u8_enc8]

end RecordFields

/-- Settles O47: the three answers by count and queue, and the fields of a record one by one. -/
theorem readRecordsGivesOldest : Obligations.ReadRecordsGivesOldest := by
  intro s n hport
  refine ⟨fun hcount => ?_, fun h1 h4 hqueue => ?_, fun h1 h4 hqueue => ?_, fun r b hb => ?_⟩
  · exact ⟨_, exec_readRecords n hport,
      takeCommand_readRecords_answers (State.readRecords_of_bad_count hcount) (SameReply.refl s)⟩
  · exact ⟨_, exec_readRecords n hport,
      takeCommand_readRecords_answers (State.readRecords_of_empty h1 h4 hqueue) (SameReply.refl s)⟩
  · exact ⟨_, exec_readRecords n hport,
      takeCommand_readRecords_answers (State.readRecords_of_nonempty h1 h4 hqueue) (SameReply.refl s)⟩
  · subst hb
    obtain ⟨horigin, hseq⟩ := r.enc_survey
    refine ⟨r.length_enc, r.enc_kind, r.enc_index, fun hnone => ?_, fun i hsome => ?_, r.enc_presence, r.enc_eOn, r.enc_eOff,
      r.enc_spread, r.enc_iOn, r.enc_vOn, r.enc_setpoint, r.enc_condition, r.enc_holdReason, r.enc_flags, r.enc_timing,
      r.enc_syncPeers⟩
    · rw [horigin, hseq, hnone]
      exact ⟨rfl, rfl⟩
    · rw [horigin, hseq, hsome]
      exact ⟨rfl, rfl⟩

end Sys2Proof.Machine

/-! # What one step can do

Every row of the opcode table is an event or a command of the port. `Change` lists their effects on the blocks once, with what each
needs to occur; `step_changes` says that a step is one of them, but for the queue of commands and the port's own exchange of bytes. The
laws of the state (O54 to O59) are proved by cases of `Change`.
-/

namespace Sys2Proof.Machine

open Sys2Proof.Safety

/-- The effect of TRANSMISSION_POINT (R4, R66, R144). -/
def State.pointTaken (s : State) : State :=
  ((s.setTimer { s.timer with txPoint := none }).requestStatus.offerCopies
    (s.setTimer { s.timer with txPoint := none }).requestStatus.survey.table).setSurvey
      (s.setTimer { s.timer with txPoint := none }).requestStatus.survey.countCopies

/-- A line tick in SETUP: the input lines are sampled and the elapsed-tick count advances (R1, R2). -/
def State.setupTick (s : State) (x : Lines) : State := (s.setLines x).setTimer (s.timer.tick false)

/-- A line tick in RUNNING (R1 to R3, R45, R63, R68, R110). -/
def State.runningTick (s : State) (radio : RadioLines) (tpi : Bool) : State :=
  (((((s.setLines { cd := radio.cd, tpi := tpi }).setTimer (s.timer.tick true)).setLink
    ((s.link.idleTick radio.cd).rxTick radio.data)).setAlign (s.align.tpiTick tpi)).setDrive s.drive.rampCount)

section Begin

/-! START's effect, block by block (R180). -/

variable (s : State)

theorem begin_timer : s.begin.timer =
    { s.timer with
      lineTime := s.port.startTime
      tally := 0
      nextEpochEnd := some (multipleAfter s.port.startTime)
      counted := false
      txPoint := some ((epochOf s.port.startTime * Config.epoch + s.drawnStatusDelay) % Config.day) } := rfl

theorem begin_align : s.begin.align = { Align.reset with timing := .acquire } := rfl

theorem begin_drive : s.begin.drive =
    { { s.drive with setpointCode := s.params.codeOf s.params.iInit, retryCount := 0 }.enterRamping with
      switchClosed := switchFor .ramping s.timer.window } := rfl

theorem begin_reg : s.begin.reg =
    { s.reg with iSet := s.params.iInit, code := s.params.codeOf s.params.iInit, driveAtOnRef := false } := rfl

theorem begin_link : s.begin.link = { s.link with rx := .hunt, idleCount := 0 } := rfl

theorem begin_peers : s.begin.peers = s.peers := rfl

theorem begin_survey : s.begin.survey = s.survey := rfl

theorem begin_records : s.begin.records = s.records := rfl

theorem begin_port : s.begin.port = { s.port with part := .running, planTag := s.params.notchPlan.tag } := rfl

theorem begin_acq_running : s.begin.acq.running = true := rfl

end Begin

/-- What a row of the opcode table does to the blocks, with what it needs to do it. -/
inductive Change (s : State) : State → Prop
  | same : Change s s
  | powerOn : Change s s.powerOn
  | restarted : Change s s.restarted
  | setupTick (x : Lines) (hpart : ¬ s.running) : Change s (s.setupTick x)
  | runningTick (radio : RadioLines) (tpi : Bool) (hpart : s.running) : Change s (s.runningTick radio tpi)
  | epochEnd (due : s.epochEndDue) : Change s s.countEpoch.removeAged.alignEpoch
  | pointTaken (due : s.txPointDue) : Change s s.pointTaken
  | onReferenceStart (due : s.onRefDue) : Change s s.openHere
  | offStart (due : s.offStartDue) : Change s s.beginOff
  | offEnd (due : s.offEndDue) : Change s s.endOff
  | markEnd (due : s.markEndDue) : Change s (s.setTimer { s.timer with markLow := false })
  | slotEnd (code : Int) (due : s.slotDue) : Change s (s.endSlot code)
  | rampTick (due : s.rampTickDue) : Change s (s.withDrive (s.drive.rampStep s.params.rampStep s.timer.elapsed))
  | retryExpiry (due : s.retryDue) :
      Change s (s.withDrive { s.drive with retryCount := s.drive.retryCount + 1, retry := none }.enterRamping)
  | cleanRun (due : s.cleanRunDue) : Change s (s.setDrive { s.drive with retryCount := 0, cleanRun := none })
  | tpiArm (due : s.tpiArmDue) : Change s (s.setAlign { s.align with armed := true })
  | tpiPulse (due : s.tpiPulseDue) : Change s s.pulse
  | anchorLoss (due : s.anchorLossDue) :
      Change s (s.setAlign { s.align with timing := .tracking, root := 0, lowerStreak := 0, lostStreak := 0 })
  | idleGap (due : s.idleGapDue) :
      Change s
        ((s.setLink
          { s.link with
            tx := .backoff
            backoffEnd := ticksAfter s.timer.elapsed (s.drawnBackoff * 100) }).drawn)
  | busyFinding (due : s.backoffDue) : Change s s.busyFinding
  | assertKey (due : s.backoffDue) : Change s (s.setLink (s.link.assertKey s.timer.elapsed))
  | preamble (due : s.preambleDue) : Change s (s.setLink { s.link with tx := .sending })
  | stamp (due : s.stampDue) :
      Change s (s.setLink { s.link with frame := some { entry := .status, body := some s.statusFields.enc } })
  | releaseKey (due : s.keyReleaseDue) : Change s (s.setLink s.link.releaseKey)
  | syncMatch (bits : Word16) (due : s.link.syncMatched bits) : Change s (s.setLink (s.link.beginFrame s.timer.lineTime))
  | frameAbandoned (length : Byte) (due : s.link.badLength length) : Change s (s.setLink s.link.hunt)
  | frameComplete (body : List Byte) (crc : Word16) (due : s.link.frameTaken body crc) :
      Change s ((s.setLink s.link.hunt).examine s.link.receiveStamp body crc)
  | surveyBegin (due : s.surveyBeginDue) : Change s (s.settleSurvey .small)
  | surveyEnd (due : s.surveyEndDue) : Change s (s.settleSurvey .small)
  | loadParameter (n : Nat) (v : Int) (hpart : s.port.part = .setup) (hv : paramInRange n v = true) :
      Change s (s.setPort { s.port with params := s.params.store n v })
  | setLineTime (t : Nat) (hpart : s.port.part = .setup) (ht : t < Config.day) :
      Change s ((s.setPort { s.port with startTime := t }).setTimer { s.timer with lineTime := t, counted := false })
  | start (hpart : s.port.part = .setup) (hc : s.params.conflict = none) : Change s s.begin
  | readAttention : Change s s.clearAttention
  | readRecords (n : Nat) : Change s (s.setRecords (s.records.read n).2)
  | captureOpen (id : BankId) (hid : s.acq.newestSealed = some id) :
      Change s (s.setAcq (s.acq.setBank id { s.acq.bank id with state := .held }))
  | captureClose (id : BankId) (hid : s.acq.heldBank = some id) :
      Change s (s.setAcq (s.acq.setBank id Bank.empty).makePendingTake)
  | surveyStart (p : SurveyParams) (a : SurveyArgs) (hpart : s.running) (hnone : s.survey.adoptedEntry = none) :
      Change s (s.acceptSurvey p a)
  | surveyHalt (e : SurveyEntry) (h : Nat) (hpart : s.running) (he : s.survey.adoptedEntry = some e) :
      Change s (s.setSurvey (s.survey.update e.id fun x => { x.takeHalt h with relay := .halt, copiesLeft := 3 }))
  | outputOff (hpart : s.running) (hd : s.drive.state = .ramping ∨ s.drive.state = .on ∨ s.drive.state = .tripped) :
      Change s (s.withDrive (s.drive.shutDown .halted))
  | outputOn (hpart : s.running) (hd : s.drive.state = .halted) :
      Change s (s.withDrive { s.drive with retryCount := 0 }.enterRamping)
  | clearFault (hpart : s.running) (hd : s.drive.state = .tripped ∨ s.drive.state = .lockout) :
      Change s (s.withDrive { s.drive with retry := none, retryCount := 0, cause := .noCause }.enterRamping)

/-- u is s but for the queue of commands and the port's exchange of bytes: its state, the frame in assembly, the reply and the error
tally. -/
def SameBlocks (s u : State) : Prop :=
  ∃ pending state length bytes lastByte reply replyTick errors, u =
    { s with
      pending := pending
      port :=
        { s.port with
          state := state
          length := length
          bytes := bytes
          lastByte := lastByte
          reply := reply
          replyTick := replyTick
          errors := errors } }

theorem SameBlocks.refl (s : State) : SameBlocks s s := ⟨_, _, _, _, _, _, _, _, rfl⟩

theorem SameBlocks.trans {s u v : State} : SameBlocks s u → SameBlocks u v → SameBlocks s v := by
  rintro ⟨_, _, _, _, _, _, _, _, rfl⟩ ⟨_, _, _, _, _, _, _, _, rfl⟩
  exact ⟨_, _, _, _, _, _, _, _, rfl⟩

theorem sameBlocks_reply (s : State) (command : Byte) (code : ReplyCode) (body : List Byte) :
    SameBlocks s (s.reply command code body) := ⟨_, _, _, _, _, _, _, _, rfl⟩

theorem sameBlocks_setPending (s : State) (x : List Instr) : SameBlocks s (s.setPending x) := ⟨_, _, _, _, _, _, _, _, rfl⟩

theorem sameBlocks_countPortError (s : State) : SameBlocks s s.countPortError := ⟨_, _, _, _, _, _, _, _, rfl⟩

theorem sameBlocks_portIdle (s : State) : SameBlocks s s.portIdle := ⟨_, _, _, _, _, _, _, _, rfl⟩

/-- One `Change`, but for the queue of commands and the port's exchange of bytes before and after it. -/
def Changes (s t : State) : Prop := ∃ x y, SameBlocks s x ∧ Change x y ∧ SameBlocks y t

theorem Change.changes {s t : State} (h : Change s t) : Changes s t := ⟨s, t, .refl s, h, .refl t⟩

theorem SameBlocks.changes {s t : State} (h : SameBlocks s t) : Changes s t := ⟨t, t, h, .same, .refl t⟩

theorem Changes.before {s u t : State} (h : SameBlocks s u) : Changes u t → Changes s t := by
  rintro ⟨x, y, hx, hxy, hy⟩
  exact ⟨x, y, h.trans hx, hxy, hy⟩

theorem Changes.then {s u t : State} (h : SameBlocks u t) : Changes s u → Changes s t := by
  rintro ⟨x, y, hx, hxy, hy⟩
  exact ⟨x, y, hx, hxy, hy.trans h⟩

/-! ### The port's commands -/

section Commands

variable (s : State)

theorem loadParameter_change {n : Nat} {v : Int} (hpart : s.port.part = .setup) : Change s (s.loadParameter n v).state := by
  unfold State.loadParameter
  split
  next hv => exact .loadParameter n v hpart hv
  next => exact .same

theorem setStartTime_change {t : Nat} (hpart : s.port.part = .setup) : Change s (s.setStartTime t).state := by
  unfold State.setStartTime
  split
  next ht => exact .setLineTime t hpart ht
  next => exact .same

theorem startPart_change (hpart : s.port.part = .setup) : Change s s.startPart.state := by
  unfold State.startPart
  split
  next => exact .same
  next hc => exact .start hpart hc

theorem readRecords_change (n : Nat) : Change s (s.readRecords n).state := by
  unfold State.readRecords
  split
  · exact .same
  · split
    · exact .same
    · exact .readRecords n

theorem captureOpen_change : Change s s.captureOpen.state := by
  unfold State.captureOpen
  split
  · exact .same
  · split
    next => exact .same
    next id hid => exact .captureOpen id hid

theorem captureFetch_state (first count : Nat) : (s.captureFetch first count).state = s := by
  unfold State.captureFetch
  split
  · rfl
  · dsimp only
    split <;> rfl

theorem captureClose_change : Change s s.captureClose.state := by
  unfold State.captureClose
  split
  next => exact .same
  next id hid => exact .captureClose id hid

theorem startSurvey_change (a : SurveyArgs) (hpart : s.running) : Change s (s.startSurvey a).1 := by
  unfold State.startSurvey
  split_ifs with hacquire hadopted
  · exact .same
  · exact .same
  · split
    · exact .same
    · split_ifs
      · exact .surveyStart _ a hpart (Option.not_isSome_iff_eq_none.mp hadopted)
      · exact .same

theorem haltSurvey_change (hpart : s.running) : Change s s.haltSurvey.1 := by
  unfold State.haltSurvey
  split
  next => exact .same
  next e he =>
    split_ifs
    · exact .same
    · exact .same
    · exact .surveyHalt e _ hpart he

theorem outputOff_change (hpart : s.running) : Change s s.outputOff.state := by
  unfold State.outputOff
  split
  next hd => exact .outputOff hpart (.inl hd)
  next hd => exact .outputOff hpart (.inr (.inl hd))
  next hd => exact .outputOff hpart (.inr (.inr hd))
  next => exact .same
  next => exact .same

theorem outputOn_change (hpart : s.running) : Change s s.outputOn.state := by
  unfold State.outputOn
  split
  next hd => exact .outputOn hpart hd
  all_goals exact .same

theorem clearFault_change (hpart : s.running) : Change s s.clearFault.state := by
  unfold State.clearFault
  split
  next hd => exact .clearFault hpart (.inl hd)
  next hd => exact .clearFault hpart (.inr hd)
  all_goals exact .same

variable {s}

/-- What a command that the part state allows does is a `Change`. -/
theorem perform_change {c : PortCommand} (hc : c.allowedIn s.port.part = true) : Change s (s.perform c).state := by
  cases c with
  | loadParameter n v => exact loadParameter_change s (decide_eq_true_iff.mp hc)
  | setLineTime t => exact setStartTime_change s (decide_eq_true_iff.mp hc)
  | start => exact startPart_change s (decide_eq_true_iff.mp hc)
  | readParameter n =>
    have hsame : (s.readParameter n).state = s := by unfold State.readParameter; split <;> rfl
    exact (congrArg (Change s) hsame).mpr .same
  | partStatus | peerList | surveyList => exact .same
  | readAttention => exact .readAttention
  | readRecords n => exact readRecords_change s n
  | captureOpen => exact captureOpen_change s
  | captureFetch first count => exact (congrArg (Change s) (captureFetch_state s first count)).mpr .same
  | captureClose => exact captureClose_change s
  | surveyStart a => exact startSurvey_change s a (decide_eq_true_iff.mp hc)
  | surveyHalt => exact haltSurvey_change s (decide_eq_true_iff.mp hc)
  | outputOff => exact outputOff_change s (decide_eq_true_iff.mp hc)
  | outputOn => exact outputOn_change s (decide_eq_true_iff.mp hc)
  | clearFault => exact clearFault_change s (decide_eq_true_iff.mp hc)
  | restart => exact .restarted

theorem takeCommand_changes (s : State) (c : PortCommand) : Changes s (s.takeCommand c) := by
  unfold State.takeCommand
  refine Changes.then (sameBlocks_reply _ _ _ _) (Change.changes ?_)
  split_ifs with hc
  · exact perform_change hc
  · exact .same

theorem portRow_changes {c : PortCommand} {t : State} (h : portRow c s = .next t) : Changes s t := by
  obtain ⟨-, rfl⟩ | ⟨-, rfl⟩ := event_cases h
  · exact takeCommand_changes s c
  · exact Change.same.changes

theorem takeFrame_changes (s : State) (code : Byte) (ps : List Byte) : Changes s (s.takeFrame code ps) := by
  unfold State.takeFrame
  split
  · exact (sameBlocks_reply _ _ _ _).changes
  · exact (sameBlocks_reply _ _ _ _).changes
  · exact takeCommand_changes s _

theorem frameEnds_changes (s : State) (l : Nat) (bytes : List Byte) : Changes s (s.frameEnds l bytes) := by
  unfold State.frameEnds
  split
  · exact Change.same.changes
  · split
    · exact takeFrame_changes s _ _
    · exact ((sameBlocks_portIdle s).trans (sameBlocks_countPortError _)).changes

/-- The arrival of a byte is noted (R169). -/
def State.byteNoted (s : State) : State := s.setPort { s.port with lastByte := s.timer.elapsed }

theorem sameBlocks_byteNoted (s : State) : SameBlocks s s.byteNoted := ⟨_, _, _, _, _, _, _, _, rfl⟩

/-- A byte joins the bytes after the length byte. -/
def State.byteJoined (s : State) (b : Byte) : State := s.byteNoted.setPort { s.byteNoted.port with bytes := s.port.bytes ++ [b] }

theorem sameBlocks_byteJoined (s : State) (b : Byte) : SameBlocks s (s.byteJoined b) := ⟨_, _, _, _, _, _, _, _, rfl⟩

/-- The first byte in RECEIVING is the length byte. -/
theorem receiveByte_of_no_length {s : State} (h : s.port.length = none) (b : Byte) :
    s.receiveByte b =
      if b = 0 then s.byteNoted.portIdle.countPortError
      else s.byteNoted.setPort { s.byteNoted.port with length := some b.toNat } := by
  simp only [State.receiveByte, State.setPort_port, h]
  rfl

/-- A later byte joins the frame, which the last of them ends. -/
theorem receiveByte_of_length {s : State} {l : Nat} (h : s.port.length = some l) (b : Byte) :
    s.receiveByte b =
      if (s.port.bytes ++ [b]).length = l + 1 then (s.byteJoined b).frameEnds l (s.port.bytes ++ [b])
      else s.byteJoined b := by
  simp only [State.receiveByte, State.byteJoined, State.byteNoted, State.setPort_port, h]

theorem receiveByte_changes (s : State) (b : Byte) : Changes s (s.receiveByte b) := by
  cases h : s.port.length with
  | none =>
    rw [receiveByte_of_no_length h]
    refine Changes.before (sameBlocks_byteNoted s) ?_
    split_ifs
    · exact ((sameBlocks_portIdle _).trans (sameBlocks_countPortError _)).changes
    · exact SameBlocks.changes ⟨_, _, _, _, _, _, _, _, rfl⟩
  | some l =>
    rw [receiveByte_of_length h]
    refine Changes.before (sameBlocks_byteJoined s b) ?_
    split_ifs
    · exact frameEnds_changes _ _ _
    · exact Change.same.changes

theorem execPortByte_changes {b : Byte} {t : State} (h : execPortByte b s = .next t) : Changes s t := by
  unfold execPortByte at h
  split at h
  · split at h
    · injection h with h
      exact h ▸ SameBlocks.changes ⟨_, _, _, _, _, _, _, _, rfl⟩
    · injection h with h
      exact h ▸ (sameBlocks_countPortError s).changes
  · injection h with h
    exact h ▸ receiveByte_changes s b
  · injection h with h
    exact h ▸ (sameBlocks_countPortError s).changes

end Commands

/-! ### Every row -/

section Rows

variable {s t : State}

/-- An event row changes what its effect does, or nothing. -/
theorem event_changes {due : Prop} [Decidable due] {u : State} (h : event due s u = .next t) (hu : due → Changes s u) :
    Changes s t := by
  obtain ⟨hdue, rfl⟩ | ⟨-, rfl⟩ := event_cases h
  · exact hu hdue
  · exact Change.same.changes

theorem execLineTick_changes {radio : RadioLines} {tpi : Bool} (h : execLineTick radio tpi s = .next t) : Changes s t := by
  unfold execLineTick at h
  dsimp only at h
  by_cases hpart : s.running
  · rw [decide_eq_true hpart] at h
    exact (Host.Outcome.next.inj ((if_pos hpart).symm.trans h)) ▸ (Change.runningTick radio tpi hpart).changes
  · rw [decide_eq_false hpart] at h
    exact (Host.Outcome.next.inj ((if_neg hpart).symm.trans h)) ▸ (Change.setupTick _ hpart).changes

theorem exec_changes {c : Instr} (h : exec c s = .next t) : Changes s t := by
  cases c with
  | powerOnReset => exact (Host.Outcome.next.inj h) ▸ Change.powerOn.changes
  | epochEnd => exact event_changes h fun due => (Change.epochEnd due).changes
  | transmissionPoint => exact event_changes h fun due => (Change.pointTaken due).changes
  | onReferenceStart => exact event_changes h fun due => (Change.onReferenceStart due).changes
  | offStart => exact event_changes h fun due => (Change.offStart due).changes
  | offEnd => exact event_changes h fun due => (Change.offEnd due).changes
  | markPulseEnd => exact event_changes h fun due => (Change.markEnd due).changes
  | conversionSlot code => exact event_changes h fun due => (Change.slotEnd code due).changes
  | rampTick => exact event_changes h fun due => (Change.rampTick due).changes
  | retryExpiry => exact event_changes h fun due => (Change.retryExpiry due).changes
  | cleanRun => exact event_changes h fun due => (Change.cleanRun due).changes
  | tpiArm => exact event_changes h fun due => (Change.tpiArm due).changes
  | tpiPulse => exact event_changes h fun due => (Change.tpiPulse due).changes
  | anchorLoss => exact event_changes h fun due => (Change.anchorLoss due).changes
  | idleGap => exact event_changes h fun due => (Change.idleGap due).changes
  | backoffEnd =>
    refine event_changes h fun due => ?_
    split
    · exact (Change.busyFinding due).changes
    · exact (Change.assertKey due).changes
  | preamble => exact event_changes h fun due => (Change.preamble due).changes
  | stamp => exact event_changes h fun due => (Change.stamp due).changes
  | keyRelease => exact event_changes h fun due => (Change.releaseKey due).changes
  | frameComplete body crc => exact event_changes h fun due => (Change.frameComplete body crc due).changes
  | surveyBegin => exact event_changes h fun due => (Change.surveyBegin due).changes
  | surveyEnd => exact event_changes h fun due => (Change.surveyEnd due).changes
  | portByte b => exact execPortByte_changes h
  | portGapTimeout =>
    exact event_changes h fun _ => ((sameBlocks_portIdle s).trans (sameBlocks_countPortError _)).changes
  | replySent => exact event_changes h fun _ => SameBlocks.changes ⟨_, _, _, _, _, _, _, _, rfl⟩
  | unknownCommand code => exact event_changes h fun _ => (sameBlocks_reply _ _ _ _).changes
  | loadParameter | readParameter | setLineTime | start | partStatus | readAttention | readRecords | peerList | surveyList
  | captureOpen | captureFetch | captureClose | surveyStart | surveyHalt | outputOff | outputOn | clearFault | restart =>
    exact portRow_changes h
  | lineTick radio tpi => exact execLineTick_changes h
  | syncPatternMatch bits => exact event_changes h fun due => (Change.syncMatch bits due).changes
  | frameAbandoned length => exact event_changes h fun due => (Change.frameAbandoned length due).changes

/-- A step is one `Change`, but for the queue of commands and the port's exchange of bytes. -/
theorem step_changes (h : step s = .next t) : Changes s t := by
  unfold step at h
  split at h
  · exact (Host.Outcome.next.inj h) ▸ Change.same.changes
  · exact (exec_changes h).before (sameBlocks_setPending s _)

/-- A predicate reads neither the queue of commands nor the port's exchange of bytes. -/
abbrev ReadsBlocks (P : State → Prop) : Prop := ∀ s u, SameBlocks s u → P s → P u

/-- Where every `Change` leads from P to Q, so does every step. -/
theorem step_leads {P Q : State → Prop} (hP : ReadsBlocks P) (hQ : ReadsBlocks Q) (h : ∀ x y, P x → Change x y → Q y)
    (hs : P s) (hstep : step s = .next t) : Q t := by
  obtain ⟨x, y, hx, hxy, hy⟩ := step_changes hstep
  exact hQ y t hy (h x y (hP s x hx hs) hxy)

end Rows

end Sys2Proof.Machine

/-! # SWITCH and the windows over a step (R7, R41)

SWITCH is set afresh wherever the drive state or the window state changes; everything else leaves both. A pair opens only where none is
in progress, so that the window state goes from NONE to ON_REFERENCE and SWITCH stays as it was.
-/

namespace Sys2Proof.Machine

open Sys2Proof.Safety

section SwitchAndWindow

/-- The two laws of O54. -/
abbrev SwitchWindow (s : State) : Prop := SwitchLaw s ∧ WindowLaw s

variable {s t : State}

theorem switchLaw_congr (hd : t.drive = s.drive) (hw : t.timer.window = s.timer.window) (h : SwitchLaw s) : SwitchLaw t := by
  rw [SwitchLaw, hd, hw]
  exact h

theorem SwitchWindow.congr (hd : t.drive = s.drive) (hw : t.timer.window = s.timer.window) (hp : t.timer.pair = s.timer.pair)
    (h : SwitchWindow s) : SwitchWindow t := by
  refine ⟨switchLaw_congr hd hw h.1, ?_⟩
  rw [WindowLaw, hp, hw]
  exact h.2

theorem switchLaw_refreshSwitch (s : State) : SwitchLaw s.refreshSwitch := rfl

theorem switchLaw_withDrive (s : State) (d : Drive) : SwitchLaw (s.withDrive d) := rfl

theorem SwitchWindow.withDrive (h : SwitchWindow s) (d : Drive) : SwitchWindow (s.withDrive d) := ⟨rfl, h.2⟩

/-- Where neither the drive state nor SWITCH changes, the law stays. -/
theorem switchLaw_setDrive {d : Drive} (hstate : d.state = s.drive.state) (hswitch : d.switchClosed = s.drive.switchClosed)
    (h : SwitchLaw s) : SwitchLaw (s.setDrive d) := by
  rw [SwitchLaw, State.setDrive_drive, State.setDrive_timer, hstate, hswitch]
  exact h

theorem switchLaw_latch (r : Reason) (h : SwitchLaw s) : SwitchLaw (s.latch r) := h

/-! ### The drive -/

@[simp] theorem Drive.checkOpenArmed_state (d : Drive) : d.checkOpenArmed.state = d.state := by
  unfold Drive.checkOpenArmed; split <;> rfl

@[simp] theorem Drive.checkOpenArmed_switchClosed (d : Drive) : d.checkOpenArmed.switchClosed = d.switchClosed := by
  unfold Drive.checkOpenArmed; split <;> rfl

@[simp] theorem Drive.follow_state (d : Drive) : d.follow.state = d.state := by
  unfold Drive.follow; split <;> simp_all

@[simp] theorem Drive.follow_switchClosed (d : Drive) : d.follow.switchClosed = d.switchClosed := by
  unfold Drive.follow; split <;> simp

@[simp] theorem Drive.takeCode_state (d : Drive) (code : Nat) : (d.takeCode code).state = d.state := by
  unfold Drive.takeCode; dsimp only; rw [Drive.follow_state]; split <;> rfl

@[simp] theorem Drive.takeCode_switchClosed (d : Drive) (code : Nat) : (d.takeCode code).switchClosed = d.switchClosed := by
  unfold Drive.takeCode; dsimp only; rw [Drive.follow_switchClosed]; split <;> rfl

theorem switchLaw_lockOut (s : State) (c : TripCause) : SwitchLaw (s.lockOut c) := rfl

theorem switchLaw_trip (s : State) (c : TripCause) : SwitchLaw (s.trip c) := by
  unfold State.trip
  split_ifs
  · rfl
  · exact switchLaw_lockOut s c

theorem switchLaw_openFilterSample (v : Int) (h : SwitchLaw s) : SwitchLaw (s.openFilterSample v) := by
  unfold State.openFilterSample
  split_ifs
  · exact switchLaw_trip s _
  · exact switchLaw_setDrive rfl rfl h
  · exact switchLaw_setDrive rfl rfl h
  · exact h

theorem switchLaw_outiSample (v : Int) (h : SwitchLaw s) : SwitchLaw (s.outiSample v) := by
  unfold State.outiSample
  split_ifs
  · exact switchLaw_trip s _
  · exact switchLaw_openFilterSample v (switchLaw_setDrive rfl rfl h)
  · exact switchLaw_openFilterSample v (switchLaw_setDrive rfl rfl h)

theorem switchLaw_protectionSample (ch : Channel) (v : Int) (h : SwitchLaw s) : SwitchLaw (s.protectionSample ch v) := by
  unfold State.protectionSample
  split_ifs
  · cases ch with
    | psp => exact h
    | outi => exact switchLaw_outiSample v h
    | outv => exact switchLaw_setDrive (by simp) (by simp) h
  · exact h

theorem switchLaw_stuckSwitch (h : SwitchLaw s) : SwitchLaw s.stuckSwitch := by
  unfold State.stuckSwitch
  split
  · exact h
  · exact switchLaw_lockOut s _
  · exact switchLaw_lockOut s _
  · exact switchLaw_lockOut s _
  · exact switchLaw_setDrive rfl rfl h

/-! ### Reductions and conversion slots -/

theorem switchLaw_handCode (h : SwitchLaw s) : SwitchLaw s.handCode := by
  unfold State.handCode
  split_ifs
  · exact h
  · exact switchLaw_setDrive (by simp) (by simp) h

theorem switchLaw_addRecord (r : CycleRecord) (h : SwitchLaw s) : SwitchLaw (s.addRecord r) :=
  switchLaw_congr (by simp) (by simp) h

theorem switchLaw_regulate (r : Reduction) (h : SwitchLaw s) : SwitchLaw (s.regulate r) := by
  unfold State.regulate
  refine switchLaw_addRecord _ (switchLaw_handCode ?_)
  split
  · exact switchLaw_congr (by simp) (by simp) h
  · exact h

theorem switchLaw_handOver (r : Reduction) (h : SwitchLaw s) : SwitchLaw (s.handOver r) := by
  unfold State.handOver
  split
  · exact switchLaw_regulate r h
  · exact switchLaw_addRecord _ h

theorem switchLaw_deliver (c : Conversion) (h : SwitchLaw s) : SwitchLaw (s.deliver c) := by
  have hcredit (a : Acq) : SwitchLaw (s.setAcq a) := h
  unfold State.deliver
  dsimp only
  split_ifs
  · exact switchLaw_stuckSwitch (switchLaw_protectionSample _ _ (hcredit _))
  · exact switchLaw_protectionSample _ _ (hcredit _)
  · exact switchLaw_stuckSwitch (hcredit _)
  · exact hcredit _

theorem switchLaw_deliverPipe (h : SwitchLaw s) : SwitchLaw s.deliverPipe := by
  unfold State.deliverPipe
  split_ifs
  · exact h
  · split
    · exact switchLaw_deliver _ h
    · exact h

theorem switchLaw_completions (ended : Tag) (h : SwitchLaw s) : SwitchLaw (s.completions ended) := by
  unfold State.completions State.checkOff
  split
  · split_ifs
    · exact switchLaw_handOver _ h
    · exact h
  · exact h

theorem switchLaw_endSlot (code : Int) (h : SwitchLaw s) : SwitchLaw (s.endSlot code) := by
  unfold State.endSlot
  split
  · exact h
  · refine switchLaw_congr (s := s.deliverAndComplete _) rfl rfl ?_
    unfold State.deliverAndComplete
    split_ifs
    · exact switchLaw_deliverPipe (switchLaw_completions _ h)
    · exact switchLaw_completions _ (switchLaw_deliverPipe (s := s.drawn) h)
    · exact switchLaw_completions _ (switchLaw_deliverPipe h)

/-! ### Pairs, steps and corrections -/

theorem switchLaw_windowChanged (h : SwitchLaw s) : SwitchLaw s.windowChanged := switchLaw_congr (by simp) (by simp) h

theorem SwitchWindow.settleSurvey (m : Move) (h : SwitchWindow s) : SwitchWindow (s.settleSurvey m) :=
  h.congr (by simp) (by simp) (by simp)

theorem windowLaw_congr (hw : t.timer.window = s.timer.window) (hp : t.timer.pair = s.timer.pair) (h : WindowLaw s) :
    WindowLaw t := by
  rw [WindowLaw, hp, hw]
  exact h

theorem openPair_pair (s : State) (p : Pair) : (s.openPair p).timer.pair = some p := by
  unfold State.openPair; dsimp only; split_ifs <;> simp

theorem openPair_window (s : State) (p : Pair) : (s.openPair p).timer.window = .onReference := by
  unfold State.openPair; dsimp only; split_ifs <;> simp

theorem SwitchWindow.openPair (p : Pair) (hnone : s.timer.pair = none) (h : SwitchWindow s) : SwitchWindow (s.openPair p) := by
  obtain ⟨hswitch, hwindow⟩ := h
  refine ⟨?_, ?_⟩
  · rw [SwitchLaw, openPair_window, (s.openPair_frame p).2.1, hswitch, hwindow.mp hnone]
    simp [switchFor]
  · rw [WindowLaw, openPair_pair, openPair_window]
    simp

theorem SwitchWindow.openHere (hnone : s.timer.pair = none) (h : SwitchWindow s) : SwitchWindow s.openHere := by
  unfold State.openHere
  split
  · exact h.openPair _ hnone
  · exact h

theorem SwitchWindow.applyCorrection (c : Int) (hnone : s.timer.pair = none) (h : SwitchWindow s) :
    SwitchWindow (s.applyCorrection c) := by
  unfold State.applyCorrection State.openAtCorrection
  have hmoved : SwitchWindow ((s.shiftTime c).keepEpochEnd.settleSurvey .small) := h.congr (by simp) (by simp) (by simp)
  split
  · split_ifs
    · exact hmoved.openPair _ (by simpa using hnone)
    · exact hmoved
  · exact hmoved

theorem SwitchWindow.handCorrection (c : Int) (h : SwitchWindow s) : SwitchWindow (s.handCorrection c) := by
  unfold State.handCorrection
  split_ifs with hzero hpair
  · exact h
  · exact h
  · exact SwitchWindow.applyCorrection (s := s.setAlign _) c (Option.not_isSome_iff_eq_none.mp hpair) h

theorem switchLaw_abandonWork (h : SwitchLaw s) : SwitchLaw s.abandonWork := by
  unfold State.abandonWork
  split
  · exact h
  · exact switchLaw_handOver _ h

theorem abandonPair_pair (s : State) : s.abandonPair.timer.pair = none := by
  unfold State.abandonPair
  split_ifs with h
  · simp [State.refreshSwitch]
  · exact Option.not_isSome_iff_eq_none.mp h

theorem SwitchWindow.abandonPair (h : SwitchWindow s) : SwitchWindow s.abandonPair := by
  refine ⟨?_, ?_⟩
  · unfold State.abandonPair
    split_ifs
    · exact switchLaw_windowChanged (switchLaw_abandonWork (switchLaw_refreshSwitch _))
    · exact h.1
  · rw [WindowLaw, abandonPair_pair]
    unfold State.abandonPair
    split_ifs with hpair
    · simp [State.refreshSwitch]
    · simpa using h.2.mp (Option.not_isSome_iff_eq_none.mp hpair)

theorem SwitchWindow.applyStep (d : Int) (h : SwitchWindow s) : SwitchWindow (s.applyStep d) := by
  unfold State.applyStep
  dsimp only
  refine (SwitchWindow.abandonPair ?_).settleSurvey _
  exact h.congr (by simp) (by simp [Timer.stepEpochEnd]) (by simp [Timer.stepEpochEnd])

theorem SwitchWindow.handStep (d : Int) (h : SwitchWindow s) : SwitchWindow (s.handStep d) := by
  unfold State.handStep
  split_ifs
  · exact h
  · exact h.applyStep d

theorem SwitchWindow.merge (h : SwitchWindow s) : SwitchWindow s.merge := by
  unfold State.merge
  split
  · exact h
  · exact (h.handStep _).congr rfl rfl rfl

theorem SwitchWindow.alignEpoch (h : SwitchWindow s) : SwitchWindow s.alignEpoch := by
  have htracking : SwitchWindow s.trackingEpoch := by
    unfold State.trackingEpoch
    dsimp only
    split_ifs
    · exact SwitchWindow.merge (s := s.setAlign _) h
    · exact h.congr (by simp) (by simp) (by simp)
    · exact SwitchWindow.handCorrection (s := s.setAlign _) _ h
  unfold State.alignEpoch
  split
  · exact h
  · exact h
  · exact h.congr (by simp) (by simp) (by simp)
  · exact htracking
  · exact htracking

theorem SwitchWindow.pulse (h : SwitchWindow s) : SwitchWindow s.pulse := by
  have hanchor {s : State} (h : SwitchWindow s) : SwitchWindow s.enterAnchor := by
    unfold State.enterAnchor
    dsimp only
    refine SwitchWindow.congr (by rfl) (by rfl) (by rfl) ?_
    split_ifs
    · exact SwitchWindow.handStep (s := s.setAlign _) _ h
    · exact SwitchWindow.handCorrection (s := s.setAlign _) _ h
  have htaken (a : Align) : SwitchWindow (s.setAlign a) := h
  unfold State.pulse
  dsimp only
  split
  · exact htaken _
  · exact htaken _
  · split_ifs
    · exact hanchor (htaken _)
    · exact htaken _
  · split_ifs
    · exact hanchor (htaken _)
    · exact htaken _
  · unfold State.anchoredPulse
    split_ifs
    · exact (htaken _).handCorrection _
    · exact htaken _

theorem SwitchWindow.examine (stamp : Nat) (body : List Byte) (crc : Word16) (h : SwitchWindow s) :
    SwitchWindow (s.examine stamp body crc) := by
  unfold State.examine
  split_ifs
  · exact h
  · split
    · exact h
    · unfold State.takeStatus
      split
      · exact h
      · exact h
      · exact h
      · unfold State.entryTaken
        split_ifs
        · exact SwitchWindow.handStep (s := s.setPeers _) _ h
        · exact h
    · exact h.congr (by simp) (by simp) (by simp)

theorem switchLaw_markOffStart (h : SwitchLaw s) : SwitchLaw s.markOffStart := switchLaw_congr (by simp) (by simp) h

theorem SwitchWindow.beginOff (due : s.offStartDue) : SwitchWindow s.beginOff := by
  obtain ⟨-, p, hp, -⟩ := due
  have hpair : s.timer.pair = some p := hp
  unfold State.beginOff
  refine ⟨switchLaw_windowChanged (switchLaw_markOffStart (switchLaw_refreshSwitch _)), ?_⟩
  have hmark : s.timer.markOffStart.pair = some p := by
    unfold Timer.markOffStart; rw [hpair]; dsimp only; split_ifs <;> simp [hpair]
  simp [WindowLaw, State.refreshSwitch, hmark]

theorem SwitchWindow.endOff (s : State) : SwitchWindow s.endOff := by
  unfold State.endOff
  refine ⟨switchLaw_windowChanged (switchLaw_refreshSwitch _), ?_⟩
  simp [WindowLaw, State.refreshSwitch]

theorem SwitchWindow.begin (h : SwitchWindow s) : SwitchWindow s.begin := by
  refine ⟨?_, ?_⟩
  · rw [SwitchLaw, begin_drive, begin_timer]
    rfl
  · rw [WindowLaw, begin_timer]
    exact h.2

/-- Every row keeps both laws. -/
theorem SwitchWindow.change (h : SwitchWindow s) (ht : Change s t) : SwitchWindow t := by
  cases ht with
  | same => exact h
  | powerOn | restarted => exact ⟨rfl, by simp [WindowLaw, State.restarted, State.powerOn, State.reset, Timer.reset]⟩
  | setupTick x _ => exact h
  | runningTick radio tpi _ =>
    have hcount : s.drive.rampCount.state = s.drive.state ∧ s.drive.rampCount.switchClosed = s.drive.switchClosed := by
      unfold Drive.rampCount; split_ifs <;> exact ⟨rfl, rfl⟩
    have htick : (s.timer.tick true).window = s.timer.window ∧ (s.timer.tick true).pair = s.timer.pair := by
      unfold Timer.tick Timer.fireEpochEnd; dsimp only; split_ifs <;> exact ⟨rfl, rfl⟩
    have hwindow : SwitchWindow (s.setTimer (s.timer.tick true)) := SwitchWindow.congr (s := s) rfl htick.1 htick.2 h
    exact ⟨switchLaw_setDrive (s := s.setTimer _) hcount.1 hcount.2 hwindow.1, hwindow.2⟩
  | epochEnd _ => exact SwitchWindow.alignEpoch (h.congr (by simp) (by simp) (by simp))
  | pointTaken _ => exact h.congr (by simp [State.pointTaken]) (by simp [State.pointTaken]) (by simp [State.pointTaken])
  | onReferenceStart due => exact h.openHere due.2.1
  | offStart due => exact SwitchWindow.beginOff due
  | offEnd _ => exact SwitchWindow.endOff s
  | slotEnd code _ => exact ⟨switchLaw_endSlot code h.1, windowLaw_congr (by simp) (by simp) h.2⟩
  | rampTick _ => exact h.withDrive _
  | retryExpiry _ => exact h.withDrive _
  | cleanRun _ => exact ⟨switchLaw_setDrive rfl rfl h.1, h.2⟩
  | tpiPulse _ => exact h.pulse
  | frameComplete body crc _ => exact SwitchWindow.examine (s := s.setLink _) _ _ _ h
  | start _ _ => exact h.begin
  | outputOff _ _ => exact h.withDrive _
  | outputOn _ _ => exact h.withDrive _
  | clearFault _ _ => exact h.withDrive _
  | _ => exact h.congr (by simp) (by simp) (by simp)

end SwitchAndWindow

/-- Settles O54: every `Change` keeps the two laws. -/
theorem stepKeepsSwitchAndWindowLaws : Obligations.StepKeepsSwitchAndWindowLaws := by
  have hreads : ReadsBlocks SwitchWindow := by
    rintro s _ ⟨_, _, _, _, _, _, _, _, rfl⟩ h
    exact h
  intro s t hswitch hwindow hstep
  exact step_leads hreads hreads (fun x y hx hxy => hx.change hxy) ⟨hswitch, hwindow⟩ hstep

end Sys2Proof.Machine

/-! # Survey notices: one equation per case (R145 to R151) -/

namespace Sys2Proof.Machine

section NoticeCases

variable {s : State} {n : Notice} {p : SurveyParams} {h : Nat}

/-- A START notice of a known identity is heard once more (R145). -/
theorem takeStart_of_known (hknown : (s.survey.entryOf n.id).isSome) :
    s.takeStart n p = s.setSurvey (s.survey.update n.id SurveyEntry.hear) := by
  rw [State.takeStart, if_pos hknown]

/-- A START notice that does not concern this station, or is past, is recorded as IGNORED (R146). -/
theorem takeStart_of_ignored (hnew : ¬ (s.survey.entryOf n.id).isSome)
    (hpast : ¬ inSpan s.params n.spanFrom n.spanTo ∨
      ¬ ((startEntry n p .ignored s.timer.tally).within s.timer.lineTime ∨
        (startEntry n p .ignored s.timer.tally).waits s.timer.lineTime)) :
    s.takeStart n p = s.drawn.setSurvey (s.survey.add ((startEntry n p .ignored s.timer.tally).unrelayed s)) := by
  rw [State.takeStart, if_neg hnew, if_pos hpast]

/-- Any other START notice is judged (R147). -/
theorem takeStart_of_judged (hnew : ¬ (s.survey.entryOf n.id).isSome)
    (hpast : ¬ (¬ inSpan s.params n.spanFrom n.spanTo ∨
      ¬ ((startEntry n p .ignored s.timer.tally).within s.timer.lineTime ∨
        (startEntry n p .ignored s.timer.tally).waits s.timer.lineTime))) :
    s.takeStart n p = s.judgeStart n p := by
  rw [State.takeStart, if_neg hnew, if_neg hpast]

/-- A new START entry with its relaying set (R148). -/
def relayedStart (s : State) (n : Notice) (e : SurveyEntry) : SurveyEntry :=
  if 0 < n.hops then e.relayed .start n.hops else e.unrelayed s

/-- The state with the free value used that an entry without relaying takes (log 16). -/
def State.relayDrawn (s : State) (relayed : Prop) [Decidable relayed] : State := if relayed then s else s.drawn

theorem relayStart_eq (s : State) (n : Notice) (e : SurveyEntry) :
    e.relayStart n s = (relayedStart s n e, s.relayDrawn (0 < n.hops)) := by
  unfold SurveyEntry.relayStart relayedStart State.relayDrawn
  split_ifs <;> rfl

theorem State.relayDrawn_cases (s : State) (relayed : Prop) [Decidable relayed] :
    s.relayDrawn relayed = s ∨ s.relayDrawn relayed = s.drawn := by
  unfold State.relayDrawn
  split_ifs
  · exact .inl rfl
  · exact .inr rfl

/-- An adopted START notice (R147, R153). -/
theorem judgeStart_of_adopted (hadopts : s.adoptsNotice n.id p = true) :
    s.judgeStart n p =
      (((s.relayDrawn (0 < n.hops)).setSurvey
        (((s.relayDrawn (0 < n.hops)).survey.add
          (relayedStart s n (startEntry n p .pending s.timer.tally))).supersedeOthers n.id)).latch .survey).settleSurvey .small := by
  rw [State.judgeStart, if_pos hadopts]
  dsimp only
  rw [relayStart_eq]

/-- A START notice that loses (R147). -/
theorem judgeStart_of_lost (hadopts : ¬ s.adoptsNotice n.id p = true) :
    s.judgeStart n p =
      (s.relayDrawn (0 < n.hops)).setSurvey
        ((s.relayDrawn (0 < n.hops)).survey.add (relayedStart s n (startEntry n p .superseded s.timer.tally))) := by
  rw [State.judgeStart, if_neg hadopts]
  dsimp only
  rw [relayStart_eq]

/-- A HALT notice of an unknown identity (R151). -/
theorem takeHaltNotice_of_unknown (hnew : s.survey.entryOf n.id = none) :
    s.takeHaltNotice n h =
      if haltRelayed s.params n then s.setSurvey (s.survey.add ((haltEntry n h s.timer.tally).relayed .halt n.hops))
      else s.drawn.setSurvey (s.survey.add ((haltEntry n h s.timer.tally).unrelayed s)) := by
  simp only [State.takeHaltNotice, hnew]

/-- A HALT notice of an entry with a halt line time is heard once more (R151). -/
theorem takeHaltNotice_of_halted {old : SurveyEntry} (hold : s.survey.entryOf n.id = some old) (hhalt : old.halt.isSome) :
    s.takeHaltNotice n h = s.setSurvey (s.survey.update n.id SurveyEntry.hear) := by
  simp only [State.takeHaltNotice, hold, hhalt, if_true]

/-- An entry that takes its first HALT, before its relaying is set (R150, R151). -/
def SurveyEntry.tookHalt (e : SurveyEntry) (h : Nat) : SurveyEntry :=
  if e.adopted then e.hear.takeHalt h else { e.hear with halt := some h, state := e.state.afterHalt }

/-- The notice table after the first HALT of a known identity (R150, R151). -/
def State.haltNoted (s : State) (n : Notice) (h : Nat) : Survey :=
  s.survey.update n.id fun e => (e.tookHalt h).relayHalt s.params n

/-- The first HALT notice of a known identity (R150, R151). -/
theorem takeHaltNotice_of_first {old : SurveyEntry} (hold : s.survey.entryOf n.id = some old) (hhalt : old.halt = none) :
    s.takeHaltNotice n h =
      if old.adopted ∧ (old.tookHalt h).haltReached s.timer.lineTime then (s.setSurvey (s.haltNoted n h)).settleSurvey .small
      else s.setSurvey (s.haltNoted n h) := by
  have hnone : ¬ old.halt.isSome = true := by simp [hhalt]
  unfold State.takeHaltNotice
  rw [hold]
  dsimp only
  rw [if_neg hnone]
  rfl

/-- What taking a notice can do, but for the notice table: nothing; or, when it is adopted or its HALT ends the adopted survey, the
adopted survey is settled, in the former case with SURVEY latched. -/
theorem takeNotice_cases (s : State) (n : Notice) :
    ∃ y v, (y = s ∨ y = s.drawn) ∧
      (s.takeNotice n = y.setSurvey v ∨ s.takeNotice n = ((y.setSurvey v).latch .survey).settleSurvey .small ∨
        s.takeNotice n = (y.setSurvey v).settleSurvey .small) := by
  unfold State.takeNotice
  split
  next p _ =>
    by_cases hknown : (s.survey.entryOf n.id).isSome
    · exact ⟨s, _, .inl rfl, .inl (takeStart_of_known hknown)⟩
    · by_cases hpast : ¬ inSpan s.params n.spanFrom n.spanTo ∨
        ¬ ((startEntry n p .ignored s.timer.tally).within s.timer.lineTime ∨
          (startEntry n p .ignored s.timer.tally).waits s.timer.lineTime)
      · exact ⟨s.drawn, _, .inr rfl, .inl (takeStart_of_ignored hknown hpast)⟩
      · rw [takeStart_of_judged hknown hpast]
        by_cases hadopts : s.adoptsNotice n.id p = true
        · exact ⟨_, _, s.relayDrawn_cases _, .inr (.inl (judgeStart_of_adopted hadopts))⟩
        · exact ⟨_, _, s.relayDrawn_cases _, .inl (judgeStart_of_lost hadopts)⟩
  next h _ =>
    cases hold : s.survey.entryOf n.id with
    | none =>
      rw [takeHaltNotice_of_unknown hold]
      split_ifs
      · exact ⟨s, _, .inl rfl, .inl rfl⟩
      · exact ⟨s.drawn, _, .inr rfl, .inl rfl⟩
    | some old =>
      cases hhalt : old.halt with
      | some _ => exact ⟨s, _, .inl rfl, .inl (takeHaltNotice_of_halted hold (by simp [hhalt]))⟩
      | none =>
        rw [takeHaltNotice_of_first hold hhalt]
        split_ifs
        · exact ⟨s, _, .inl rfl, .inr (.inr rfl)⟩
        · exact ⟨s, _, .inl rfl, .inl rfl⟩

end NoticeCases

end Sys2Proof.Machine

/-! # Laws that the parts of the long operations keep

An epoch end, a pulse, a frame, a conversion slot and a window event are made of a few parts: setters, latches, records, samples, the
settling of the survey. `KeptByParts` lists these parts; a law that each of them keeps is kept by every one of those operations. O55 to O59
are proved by it.
-/

namespace Sys2Proof.Machine

/-! ### What the parts leave of the line timer and of the converter -/

/-- A multiple of 100,000 in the line day (R3). -/
def EpochPoint (e : Nat) : Prop := e % 100000 = 0 ∧ e < 864000000

/-- The line timer after an event: the elapsed ticks stand, line time and the tally stay in their ranges, and the next epoch end at an
epoch's first tick (R1 to R3). -/
structure Timer.Kept (t x : Timer) : Prop where
  lineTime : t.lineTime < 864000000 → x.lineTime < 864000000
  elapsed : x.elapsed = t.elapsed
  tally : t.tally < 65536 → x.tally < 65536
  epochEnd : (∃ e ∈ t.nextEpochEnd, EpochPoint e) → ∃ e ∈ x.nextEpochEnd, EpochPoint e

/-- None of the four changes. -/
theorem Timer.Kept.same {t x : Timer} (hline : x.lineTime = t.lineTime) (helapsed : x.elapsed = t.elapsed)
    (htally : x.tally = t.tally) (hend : x.nextEpochEnd = t.nextEpochEnd) : t.Kept x where
  lineTime := by rw [hline]; exact id
  elapsed := helapsed
  tally := by rw [htally]; exact id
  epochEnd := by rw [hend]; exact id

theorem dayMod_lt (x : Int) : dayMod x < 864000000 := by
  unfold dayMod Config.day
  omega

theorem multipleAfter_epochPoint (t : Nat) : EpochPoint (multipleAfter t) := by
  unfold EpochPoint multipleAfter Config.epoch Config.day
  omega

theorem Timer.kept_setLineTime (t : Timer) (x : Int) (c : Bool) : t.Kept { t with lineTime := dayMod x, counted := c } where
  lineTime _ := dayMod_lt x
  elapsed := rfl
  tally := id
  epochEnd := id

theorem Timer.kept_markOffStart (t : Timer) (w : WindowState) : t.Kept { t.markOffStart with window := w } := by
  unfold Timer.markOffStart
  split
  · split <;> exact .same rfl rfl rfl rfl
  · exact .same rfl rfl rfl rfl

/-- 100,000 on from an epoch's first tick is the next epoch's (R3). -/
theorem Timer.epochEndAhead_point {t : Timer} (h : ∃ e ∈ t.nextEpochEnd, EpochPoint e) : ∃ e ∈ t.epochEndAhead, EpochPoint e := by
  obtain ⟨e, he, hpoint⟩ := h
  unfold Timer.epochEndAhead
  split
  next m hm =>
    split_ifs with hnext
    · have hme : m = e := Option.some.inj (hnext.symm.trans he)
      subst hme
      refine ⟨_, rfl, ?_⟩
      unfold EpochPoint Config.epoch Config.day at *
      omega
    · exact ⟨e, he, hpoint⟩
  all_goals exact ⟨e, he, hpoint⟩

theorem Timer.kept_keepEpochEnd (t : Timer) :
    t.Kept
      { t with
        nextEpochEnd := t.epochEndAhead.map fun e => if before t.lineTime e then e else multipleAfter t.lineTime } where
  lineTime := id
  elapsed := rfl
  tally := id
  epochEnd h := by
    obtain ⟨e, he, hpoint⟩ := Timer.epochEndAhead_point h
    refine ⟨_, Option.mem_map_of_mem _ he, ?_⟩
    split_ifs
    · exact hpoint
    · exact multipleAfter_epochPoint _

theorem Timer.kept_stepEpochEnd (t : Timer) : t.Kept t.stepEpochEnd where
  lineTime := id
  elapsed := rfl
  tally := id
  epochEnd _ := ⟨_, rfl, multipleAfter_epochPoint _⟩

theorem Timer.kept_countEpoch (t : Timer) :
    t.Kept { t with tally := (t.tally + 1) % 65536, nextEpochEnd := t.epochEndAhead, epochWork := .nothing } where
  lineTime := id
  elapsed := rfl
  tally _ := Nat.mod_lt _ (by decide)
  epochEnd := Timer.epochEndAhead_point

section Converter

/-! The converter runs on through every one of these. -/

variable (a : Acq)

@[simp] theorem Acq.setBank_running (id : BankId) (x : Bank) : (a.setBank id x).running = a.running := by
  cases id <;> rfl

@[simp] theorem Acq.take_running (w : PairWork) : (a.take w).running = a.running := by
  unfold Acq.take
  split <;> simp

@[simp] theorem Acq.makePendingTake_running : a.makePendingTake.running = a.running := by
  unfold Acq.makePendingTake
  split <;> simp

@[simp] theorem Acq.writeBank_running (id : Option BankId) (es : List Entry) : (a.writeBank id es).running = a.running := by
  cases id <;> simp [Acq.writeBank]

@[simp] theorem Acq.sealFor_running (w : PairWork) (ps : Params) (abandoned : Bool) :
    (a.sealFor w ps abandoned).running = a.running := by
  unfold Acq.sealFor Acq.sealBank
  split <;> simp

theorem Acq.credit_running (ps : Params) (t : Tag) (v : Int) : (a.credit ps t v).running = a.running := by
  unfold Acq.credit
  (repeat' split) <;> simp

theorem Acq.checkOn_running (ended : Tag) : (a.checkOn ended).running = a.running := by
  unfold Acq.checkOn Acq.completeOn
  (repeat' split) <;> simp

end Converter

/-! ### The parts -/

/-- Every part of the long operations keeps P. -/
structure KeptByParts (P : State → Prop) : Prop where
  setTimer : ∀ {s}, P s → ∀ x, s.timer.Kept x → P (s.setTimer x)
  setAlign : ∀ {s}, P s → ∀ x, P (s.setAlign x)
  setAcq : ∀ {s}, P s → ∀ x, x.running = s.acq.running → P (s.setAcq x)
  /-- The receive stamp of a frame in assembly moves (R76). -/
  moveStamp : ∀ {s}, P s → ∀ a, P (s.setLink { s.link with assembly := a })
  drawn : ∀ {s}, P s → P s.drawn
  refreshSwitch : ∀ {s}, P s → P s.refreshSwitch
  latch : ∀ {s}, P s → ∀ r, P (s.latch r)
  holdForSurvey : ∀ {s}, P s → P s.holdForSurvey
  noteDrive : ∀ {s}, P s → P s.noteDrive
  addRecord : ∀ {s}, P s → ∀ r, P (s.addRecord r)
  regulate : ∀ {s}, P s → ∀ r, P (s.regulate r)
  protectionSample : ∀ {s}, P s → ∀ ch v, P (s.protectionSample ch v)
  stuckSwitch : ∀ {s}, P s → P s.stuckSwitch
  countCrc : ∀ {s}, P s → P s.countCrc
  countMalformed : ∀ {s}, P s → P s.countMalformed
  countOutOfSpan : ∀ {s}, P s → P s.countOutOfSpan
  removeAged : ∀ {s}, P s → P s.removeAged
  reduceOffsets : ∀ {s}, P s → ∀ c, P (s.reduceOffsets c)
  admitted : ∀ {s}, P s → ∀ {f stamp table entry}, admission f stamp s = .admitted table entry → P (s.setPeers table)
  /-- The adopted survey moves to another state (R152). -/
  moveSurvey : ∀ {s}, P s → ∀ {e}, s.survey.adoptedEntry = some e → ∀ next,
    P (s.setSurvey (s.survey.update e.id fun x => { x with state := next }))
  takeNotice : ∀ {s}, P s → ∀ n, P (s.takeNotice n)

namespace KeptByParts

variable {P : State → Prop} {s : State} (k : KeptByParts P)

include k

/-! ### Conversion slots -/

theorem handOver (h : P s) (r : Reduction) : P (s.handOver r) := by
  unfold State.handOver
  split
  · exact k.regulate h r
  · exact k.addRecord h _

theorem deliver (h : P s) (c : Conversion) : P (s.deliver c) := by
  unfold State.deliver
  dsimp only
  split_ifs
  · exact k.stuckSwitch (k.protectionSample (k.setAcq h _ (Acq.credit_running _ _ _ _)) _ _)
  · exact k.protectionSample (k.setAcq h _ (Acq.credit_running _ _ _ _)) _ _
  · exact k.stuckSwitch (k.setAcq h _ (Acq.credit_running _ _ _ _))
  · exact k.setAcq h _ (Acq.credit_running _ _ _ _)

theorem deliverPipe (h : P s) : P s.deliverPipe := by
  unfold State.deliverPipe
  split_ifs
  · exact k.setAcq h _ rfl
  · split
    · exact k.deliver h _
    · exact h

theorem completions (h : P s) (ended : Tag) : P (s.completions ended) := by
  have hon : P (s.setAcq (s.acq.checkOn ended)) := k.setAcq h _ (Acq.checkOn_running _ _)
  unfold State.completions State.checkOff
  split
  · split_ifs
    · exact k.handOver (k.setAcq hon _ (by simp)) _
    · exact hon
  · exact hon

theorem endSlot (h : P s) (code : Int) : P (s.endSlot code) := by
  unfold State.endSlot
  split
  · exact h
  · refine k.setAcq (k.setAcq ?_ _ rfl) _ rfl
    unfold State.deliverAndComplete
    split_ifs
    · exact k.deliverPipe (k.completions (k.drawn h) _)
    · exact k.completions (k.deliverPipe (k.drawn h)) _
    · exact k.completions (k.deliverPipe h) _

/-! ### The survey's movement and the windows -/

theorem latchIf (h : P s) (c : Prop) [Decidable c] (r : Reason) : P (s.latchIf c r) := by
  unfold State.latchIf
  split_ifs
  · exact k.latch h r
  · exact h

theorem setPlan (h : P s) (p : Plan) : P (s.setPlan p) := by
  unfold State.setPlan
  dsimp only
  split_ifs
  · exact k.holdForSurvey (k.setTimer h _ (.same rfl rfl rfl rfl))
  · exact k.setTimer h _ (.same rfl rfl rfl rfl)

theorem settleSurvey (h : P s) (m : Move) : P (s.settleSurvey m) := by
  unfold State.settleSurvey
  split
  · exact k.setPlan h _
  next e he => exact k.setPlan (k.latchIf (k.moveSurvey h he _) _ _) _

theorem windowChanged (h : P s) : P s.windowChanged := by
  unfold State.windowChanged
  dsimp only
  split_ifs
  · exact k.setAcq (k.setAcq h _ rfl) _ rfl
  · exact k.setAcq h _ rfl

theorem openPair (h : P s) (p : Pair) : P (s.openPair p) := by
  have htaken : P ((s.setTimer { s.timer with pair := some p, window := .onReference, opened := s.timer.opened + 1 }).setAcq
      (s.acq.openPair p)) := by
    refine k.setAcq (k.setTimer h _ ?_) _ (Acq.take_running s.acq _)
    exact .same rfl rfl rfl rfl
  unfold State.openPair
  dsimp only
  split_ifs
  · exact k.noteDrive (k.windowChanged htaken)
  · exact k.windowChanged htaken

theorem openHere (h : P s) : P s.openHere := by
  unfold State.openHere
  split
  · exact k.openPair h _
  · exact h

theorem beginOff (h : P s) : P s.beginOff := by
  unfold State.beginOff State.markOffStart
  refine k.windowChanged ?_
  split
  · exact k.refreshSwitch (k.setTimer h _ (Timer.kept_markOffStart _ _))
  · exact k.setAcq (k.refreshSwitch (k.setTimer h _ (Timer.kept_markOffStart _ _))) _ rfl

theorem endOff (h : P s) : P s.endOff := by
  unfold State.endOff
  refine k.windowChanged (k.setAcq (k.refreshSwitch (k.setTimer h _ ?_)) _ ?_)
  · exact .same rfl rfl rfl rfl
  · rfl

/-! ### Steps and corrections -/

theorem shiftTime (h : P s) (c : Int) : P (s.shiftTime c) :=
  k.moveStamp (k.reduceOffsets (k.setTimer h _ (Timer.kept_setLineTime _ _ _)) _) _

theorem applyCorrection (h : P s) (c : Int) : P (s.applyCorrection c) := by
  have hsettled : P ((s.shiftTime c).keepEpochEnd.settleSurvey .small) := 
    k.settleSurvey (k.setTimer (k.shiftTime h c) _ (Timer.kept_keepEpochEnd _)) _
  unfold State.applyCorrection State.openAtCorrection
  split
  · split_ifs
    · exact k.openPair hsettled _
    · exact hsettled
  · exact hsettled

theorem handCorrection (h : P s) (c : Int) : P (s.handCorrection c) := by
  unfold State.handCorrection
  split_ifs
  · exact h
  · exact k.setAlign h _
  · exact k.applyCorrection (k.setAlign h _) c

theorem abandonWork (h : P s) : P s.abandonWork := by
  unfold State.abandonWork
  split
  · exact h
  · exact k.handOver (k.setAcq h _ (by simp)) _

theorem abandonPair (h : P s) : P s.abandonPair := by
  unfold State.abandonPair
  split_ifs
  · exact k.windowChanged (k.abandonWork (k.refreshSwitch (k.setTimer h _ (.same rfl rfl rfl rfl))))
  · exact h

theorem drawTxPointFrom (h : P s) (first : Nat) : P (s.drawTxPointFrom first) :=
  k.drawn (k.setTimer h _ (.same rfl rfl rfl rfl))

theorem handStep (h : P s) (d : Int) : P (s.handStep d) := by
  unfold State.handStep State.applyStep
  split_ifs
  · exact h
  all_goals
    exact k.settleSurvey
      (k.abandonPair (k.drawTxPointFrom (k.setTimer (k.shiftTime h d) _ (Timer.kept_stepEpochEnd _)) _)) _

/-! ### Epoch ends, pulses and frames -/

theorem alignEpoch (h : P s) : P s.alignEpoch := by
  have hmerge {x : State} (hx : P x) : P x.merge := by
    unfold State.merge
    split
    · exact hx
    · exact k.setAlign (k.handStep hx _) _
  have htracking : P s.trackingEpoch := by
    unfold State.trackingEpoch
    dsimp only
    split_ifs
    · exact hmerge (k.setAlign h _)
    · exact k.latch (k.setAlign (k.setAlign h _) _) _
    · exact k.handCorrection (k.setAlign h _) _
  unfold State.alignEpoch
  split
  · exact h
  · exact h
  · unfold State.acquireEpoch
    split_ifs
    · exact k.setAlign h _
    · exact k.setAlign h _
  · exact htracking
  · exact htracking

theorem epochEnd (h : P s) : P s.countEpoch.removeAged.alignEpoch := by
  refine k.alignEpoch (k.removeAged ?_)
  unfold State.countEpoch
  dsimp only
  split
  · exact k.drawTxPointFrom (k.setTimer h _ (Timer.kept_countEpoch _)) _
  · exact k.setTimer h _ (Timer.kept_countEpoch _)
  · exact k.setTimer h _ (Timer.kept_countEpoch _)

theorem pulse (h : P s) : P s.pulse := by
  have hanchor {x : State} (hx : P x) : P x.enterAnchor := by
    unfold State.enterAnchor
    dsimp only
    split_ifs
    · exact k.setAlign (k.handStep (k.setAlign hx _) _) _
    · exact k.setAlign (k.handCorrection (k.setAlign hx _) _) _
  unfold State.pulse
  dsimp only
  split
  · exact k.setAlign h _
  · exact k.setAlign h _
  · split_ifs
    · exact hanchor (k.setAlign h _)
    · exact k.setAlign h _
  · split_ifs
    · exact hanchor (k.setAlign h _)
    · exact k.setAlign h _
  · unfold State.anchoredPulse
    split_ifs
    · exact k.handCorrection (k.setAlign h _) _
    · exact k.setAlign h _

theorem takeStatus (h : P s) (f : Status) (stamp : Nat) : P (s.takeStatus f stamp) := by
  unfold State.takeStatus
  split
  · exact k.latch h _
  · exact k.countOutOfSpan h
  · exact h
  next table entry hadmitted =>
    unfold State.entryTaken
    split_ifs
    · exact k.setAlign (k.handStep (k.admitted h hadmitted) _) _
    · exact k.admitted h hadmitted

theorem examine (h : P s) (stamp : Nat) (body : List Byte) (crc : Word16) : P (s.examine stamp body crc) := by
  unfold State.examine
  split_ifs
  · exact k.countCrc h
  · split
    · exact k.countMalformed h
    · exact k.takeStatus h _ _
    · exact k.takeNotice h _

end KeptByParts

end Sys2Proof.Machine

/-! # The drive controller over a step (R42, R46, R50 to R52)

`Drive.Lawful` is what the two laws of O55 say of the drive, at a retry limit. Each operation of the drive keeps it; a state operation
then keeps the laws because it changes the drive by those operations alone.
-/

namespace Sys2Proof.Machine

open Sys2Proof.Safety

/-- The ranges and rests of the drive, at a retry limit (R42, R46, R50 to R52). -/
def Drive.Lawful (d : Drive) (limit : Nat) : Prop :=
  d.demand ≤ 4095 ∧ d.setpointCode ≤ 4095 ∧ d.rampTarget ≤ 4095 ∧ d.backoff ≤ 4095 ∧ d.rampTimer ≤ 1000 ∧ d.overRun ≤ 1 ∧
    (¬ (d.state = .ramping ∨ d.state = .on) →
      d.demand = 0 ∧ d.backoff = 0 ∧ d.rampTimer = 0 ∧ d.overRun = 0 ∧ d.openRun = 0) ∧
    (d.state ≠ .on → d.cleanRun = none) ∧ (¬ d.openArmed → d.openRun = 0) ∧
    d.retryCount ≤ limit ∧ (d.retry.isSome ↔ d.state = .tripped) ∧ (d.state = .tripped → d.retryCount < limit)

section DriveOperations

variable {d : Drive} {limit : Nat}

/-- HALTED and LOCKOUT: everything rests, no retry is armed (R42, R46). -/
theorem Drive.Lawful.shutDown (h : d.Lawful limit) {goal : DriveState} (hgoal : goal = .halted ∨ goal = .lockout) :
    (d.shutDown goal).Lawful limit := by
  obtain ⟨-, hcode, htarget, -, -, -, -, -, -, hcount, -, -⟩ := h
  have hnot : goal ≠ .ramping ∧ goal ≠ .on ∧ goal ≠ .tripped := by rcases hgoal with rfl | rfl <;> decide
  simp [Drive.Lawful, Drive.shutDown, hcode, htarget, hcount, hnot]

/-- TRIPPED: everything rests but the retry timer, and the retry count lies below its limit (R51). -/
theorem Drive.Lawful.trip (h : d.Lawful limit) (hlimit : d.retryCount < limit) (at_ : Nat) :
    { d.shutDown .tripped with retry := some at_ }.Lawful limit := by
  obtain ⟨-, hcode, htarget, -, -, -, -, -, -, hcount, -, -⟩ := h
  simp [Drive.Lawful, Drive.shutDown, hcode, htarget, hcount, hlimit]

/-- RAMPING entered with no clean run timed and no retry armed (R44). -/
theorem Drive.Lawful.enterRamping (hcode : d.setpointCode ≤ 4095) (hback : d.backoff ≤ 4095) (hclean : d.cleanRun = none)
    (hretry : d.retry = none) (hcount : d.retryCount ≤ limit) : d.enterRamping.Lawful limit := by
  simp [Drive.Lawful, Drive.enterRamping, Drive.openArmed, hcode, hback, hclean, hretry, hcount]

/-- The demand of a drive whose codes are in range follows them, and the open-circuit run with it (R42, R50). -/
theorem Drive.Lawful.follow (h : d.Lawful limit) : d.follow.Lawful limit := by
  obtain ⟨hdemand, hcode, htarget, hback, htimer, hover, hrest, hclean, hopen, hcount, hretry, htrip⟩ := h
  unfold Drive.follow
  split
  next hon =>
    unfold Drive.checkOpenArmed
    split_ifs with harmed
    · refine ⟨?_, hcode, htarget, hback, htimer, hover, by simp [hon], hclean, fun hn => absurd harmed hn, hcount, hretry, htrip⟩
      dsimp only
      omega
    · refine ⟨?_, hcode, htarget, hback, htimer, hover, by simp [hon], hclean, fun _ => rfl, hcount, hretry, htrip⟩
      dsimp only
      omega
  next hramp =>
    refine ⟨by dsimp only; omega, hcode, htarget, hback, htimer, hover, by simp [hramp], hclean, ?_, hcount, hretry, htrip⟩
    exact fun _ => hopen (by simp [hramp])
  all_goals exact ⟨hdemand, hcode, htarget, hback, htimer, hover, hrest, hclean, hopen, hcount, hretry, htrip⟩

theorem Drive.Lawful.takeCode (h : d.Lawful limit) {code : Nat} (hcode : code ≤ 4095) : (d.takeCode code).Lawful limit := by
  obtain ⟨hdemand, -, htarget, hback, htimer, hover, hrest, hclean, hopen, hcount, hretry, htrip⟩ := h
  unfold Drive.takeCode
  refine Drive.Lawful.follow ?_
  dsimp only
  split_ifs with hramp
  · exact ⟨hdemand, hcode, hcode, hback, htimer, hover, hrest, hclean, hopen, hcount, hretry, htrip⟩
  · exact ⟨hdemand, hcode, htarget, hback, htimer, hover, hrest, hclean, hopen, hcount, hretry, htrip⟩

/-- In RAMPING and ON the backoff may stand anywhere in its range. -/
theorem Drive.Lawful.setBackoff (h : d.Lawful limit) {b : Nat} (hb : b ≤ 4095) (hd : d.state = .ramping ∨ d.state = .on) :
    { d with backoff := b }.Lawful limit := by
  obtain ⟨hdemand, hcode, htarget, hback, htimer, hover, hrest, hclean, hopen, hcount, hretry, htrip⟩ := h
  exact ⟨hdemand, hcode, htarget, hb, htimer, hover, fun hn => absurd hd hn, hclean, hopen, hcount, hretry, htrip⟩

theorem Drive.backoffAfter_le (hback : d.backoff ≤ 4095) (vLimit v : Int) : d.backoffAfter vLimit v ≤ 4095 := by
  unfold Drive.backoffAfter
  split_ifs <;> omega

/-- In RAMPING and ON the overcurrent run may stand at 0 or 1. -/
theorem Drive.Lawful.setOverRun (h : d.Lawful limit) {n : Nat} (hn : n ≤ 1) (hd : d.state = .ramping ∨ d.state = .on) :
    { d with overRun := n }.Lawful limit := by
  obtain ⟨hdemand, hcode, htarget, hback, htimer, hover, hrest, hclean, hopen, hcount, hretry, htrip⟩ := h
  exact ⟨hdemand, hcode, htarget, hback, htimer, hn, fun hn => absurd hd hn, hclean, hopen, hcount, hretry, htrip⟩

/-- While its filter is armed the open-circuit run may stand anywhere. -/
theorem Drive.Lawful.setOpenRun (h : d.Lawful limit) (harmed : d.openArmed) (n : Nat) : { d with openRun := n }.Lawful limit := by
  obtain ⟨hdemand, hcode, htarget, hback, htimer, hover, hrest, hclean, hopen, hcount, hretry, htrip⟩ := h
  exact ⟨hdemand, hcode, htarget, hback, htimer, hover, fun hn => absurd (.inr harmed.1) hn, hclean,
    fun hn => absurd harmed hn, hcount, hretry, htrip⟩

/-- A ramp tick in RAMPING leaves the demand at or below the ramp cap, or enters ON (R45, R46). -/
theorem Drive.Lawful.rampStep (h : d.Lawful limit) (hramp : d.state = .ramping) (step now : Nat) :
    (d.rampStep step now).Lawful limit := by
  obtain ⟨hdemand, hcode, htarget, hback, -, hover, -, hclean, hopen, hcount, hretry, -⟩ := h
  have hcap : d.rampCap ≤ 4095 := by unfold Drive.rampCap; omega
  have hrun : d.openRun = 0 := hopen (by simp [hramp])
  have hretry : d.retry = none := by simpa [hramp] using hretry
  have hclean : d.cleanRun = none := hclean (by simp [hramp])
  have hmin : min (d.demand + step) d.rampCap ≤ 4095 := (min_le_right _ _).trans hcap
  unfold Drive.rampStep
  dsimp only
  split_ifs
  · refine Drive.Lawful.follow ?_
    simp [Drive.Lawful, hcode, htarget, hback, hover, hrun, hcount, hretry, hmin]
  · simp [Drive.Lawful, hcode, htarget, hback, hover, hrun, hcount, hretry, hramp, hclean, hmin]

theorem Drive.Lawful.rampCount (h : d.Lawful limit) : d.rampCount.Lawful limit := by
  unfold Drive.rampCount
  split_ifs with hramp
  · obtain ⟨hdemand, hcode, htarget, hback, htimer, hover, hrest, hclean, hopen, hcount, hretry, htrip⟩ := h
    refine ⟨hdemand, hcode, htarget, hback, ?_, hover, fun hn => absurd (.inl hramp.1) hn, hclean, hopen, hcount, hretry, htrip⟩
    dsimp only [satSucc, Config.rampPeriod]
    split_ifs <;> omega
  · exact h

theorem Drive.reset_lawful (limit : Nat) : Drive.reset.Lawful limit := by
  simp [Drive.Lawful, Drive.reset]

end DriveOperations

section DriveState

/-- The two laws of O55. -/
abbrev DriveRetry (s : State) : Prop := s.drive.Lawful s.params.retryLimit ∧ s.reg.code ≤ 4095

theorem driveRetry_iff (s : State) : DriveRetry s ↔ DriveLaw s ∧ RetryLaw s := by
  constructor
  · rintro ⟨⟨h1, h2, h3, h4, h5, h6, h7, h8, h9, h10, h11, h12⟩, hcode⟩
    exact ⟨⟨h1, h2, h3, h4, hcode, h5, h6, h7, h8, h9⟩, h10, h11, h12⟩
  · rintro ⟨⟨h1, h2, h3, h4, hcode, h5, h6, h7, h8, h9⟩, h10, h11, h12⟩
    exact ⟨⟨h1, h2, h3, h4, h5, h6, h7, h8, h9, h10, h11, h12⟩, hcode⟩

variable {s t : State}

theorem DriveRetry.congr (hd : t.drive = s.drive) (hr : t.reg.code = s.reg.code) (hp : t.port.params = s.port.params)
    (h : DriveRetry s) : DriveRetry t := by
  rw [DriveRetry, State.params, hd, hr, hp]
  exact h

theorem DriveRetry.setDrive (h : DriveRetry s) {d : Drive} (hd : d.Lawful s.params.retryLimit) : DriveRetry (s.setDrive d) :=
  ⟨hd, h.2⟩

/-- SWITCH is set afresh with the drive, which no law of the drive reads. -/
theorem DriveRetry.withDrive (h : DriveRetry s) {d : Drive} (hd : d.Lawful s.params.retryLimit) : DriveRetry (s.withDrive d) :=
  ⟨hd, h.2⟩

theorem DriveRetry.lockOut (h : DriveRetry s) (c : TripCause) : DriveRetry (s.lockOut c) :=
  h.withDrive (d := { s.drive.shutDown .lockout with cause := c }) (h.1.shutDown (.inr rfl))

theorem DriveRetry.trip (h : DriveRetry s) (c : TripCause) : DriveRetry (s.trip c) := by
  unfold State.trip
  split_ifs with hlimit
  · exact h.withDrive (h.1.trip hlimit _)
  · exact h.lockOut c

theorem DriveRetry.openFilterSample (h : DriveRetry s) (v : Int) : DriveRetry (s.openFilterSample v) := by
  unfold State.openFilterSample
  split_ifs with harmed
  · exact h.trip _
  · exact h.setDrive (h.1.setOpenRun harmed _)
  · exact h.setDrive (h.1.setOpenRun harmed _)
  · exact h

theorem DriveRetry.outiSample (h : DriveRetry s) (hd : s.drive.state = .ramping ∨ s.drive.state = .on) (v : Int) :
    DriveRetry (s.outiSample v) := by
  unfold State.outiSample
  split_ifs with hover hrun
  · exact h.trip _
  · exact (h.setDrive (h.1.setOverRun (by omega) hd)).openFilterSample v
  · exact (h.setDrive (h.1.setOverRun (by omega) hd)).openFilterSample v

theorem DriveRetry.outvSample (h : DriveRetry s) (hd : s.drive.state = .ramping ∨ s.drive.state = .on) (v : Int) :
    DriveRetry (s.outvSample v) :=
  h.setDrive ((h.1.setBackoff (Drive.backoffAfter_le h.1.2.2.2.1 _ v) hd).follow)

theorem DriveRetry.protectionSample (h : DriveRetry s) (ch : Channel) (v : Int) : DriveRetry (s.protectionSample ch v) := by
  unfold State.protectionSample
  split_ifs with hd
  · cases ch with
    | psp => exact h
    | outi => exact h.outiSample hd v
    | outv => exact h.outvSample hd v
  · exact h

theorem DriveRetry.stuckSwitch (h : DriveRetry s) : DriveRetry s.stuckSwitch := by
  unfold State.stuckSwitch
  split
  · exact h
  · exact h.lockOut _
  · exact h.lockOut _
  · exact h.lockOut _
  · exact h.setDrive (d := { s.drive with cause := .switchStuck }) h.1

/-! ### The regulator's codes -/

theorem codeOf_le (ps : Params) (i : Int) : ps.codeOf i ≤ 4095 := by
  unfold Params.codeOf clamp
  split_ifs <;> omega

theorem regAfterValid_code_le (hcode : s.reg.code ≤ 4095) (depth : Int) : (s.regAfterValid depth).code ≤ 4095 := by
  unfold State.regAfterValid
  dsimp only
  split_ifs
  · exact hcode
  · exact codeOf_le _ _

theorem DriveRetry.handCode (h : DriveRetry s) : DriveRetry s.handCode := by
  unfold State.handCode
  split_ifs
  · exact h
  · exact h.setDrive (h.1.takeCode h.2)

theorem DriveRetry.addRecord (h : DriveRetry s) (r : CycleRecord) : DriveRetry (s.addRecord r) :=
  h.congr (by simp) (by simp) (by simp)

theorem DriveRetry.regulate (h : DriveRetry s) (r : Reduction) : DriveRetry (s.regulate r) := by
  unfold State.regulate
  dsimp only
  refine DriveRetry.addRecord (DriveRetry.handCode ?_) _
  split
  · exact h.congr (by simp) (by simp [Reg.held]) (by simp)
  · exact ⟨h.1, regAfterValid_code_le h.2 _⟩

/-- The survey unit takes a notice, and the regulator its plan: neither the setpoint nor its code changes. -/
theorem takeNotice_reg (s : State) (n : Notice) :
    (s.takeNotice n).reg.code = s.reg.code ∧ (s.takeNotice n).reg.iSet = s.reg.iSet := by
  have hplan (x : State) (p : Plan) : (x.setPlan p).reg.code = x.reg.code ∧ (x.setPlan p).reg.iSet = x.reg.iSet := by
    unfold State.setPlan
    dsimp only
    split_ifs <;> exact ⟨rfl, rfl⟩
  have hsettle (x : State) :
      (x.settleSurvey .small).reg.code = x.reg.code ∧ (x.settleSurvey .small).reg.iSet = x.reg.iSet := by
    unfold State.settleSurvey
    split
    · exact hplan _ _
    · simp [hplan]
  obtain ⟨y, v, hy, hshape⟩ := takeNotice_cases s n
  have hy : y.reg = s.reg := by rcases hy with rfl | rfl <;> simp
  rcases hshape with hshape | hshape | hshape <;> simp [hshape, hsettle, hy]

theorem driveRetry_keptByParts : KeptByParts DriveRetry where
  setTimer h _ _ := h
  setAlign h _ := h
  setAcq h _ _ := h
  moveStamp h _ := h
  drawn h := h
  refreshSwitch h := h
  latch h _ := h
  holdForSurvey h := h
  noteDrive h := h
  addRecord h r := h.addRecord r
  regulate h r := h.regulate r
  protectionSample h ch v := h.protectionSample ch v
  stuckSwitch h := h.stuckSwitch
  countCrc h := h
  countMalformed h := h
  countOutOfSpan h := h
  removeAged h := h
  reduceOffsets h _ := h
  admitted h _ _ _ _ _ := h
  moveSurvey h _ _ _ := h
  takeNotice h n := h.congr (by simp) (takeNotice_reg _ n).1 (by simp)

/-! ### Every row -/

theorem DriveRetry.of_reset (hd : t.drive = Drive.reset) (hr : t.reg.code ≤ 4095) : DriveRetry t :=
  ⟨hd ▸ Drive.reset_lawful _, hr⟩

theorem DriveRetry.begin (hsetup : s.drive = Drive.reset) : DriveRetry s.begin := by
  refine ⟨?_, codeOf_le _ _⟩
  rw [begin_drive]
  refine Drive.Lawful.enterRamping (d := { s.drive with setpointCode := _, retryCount := 0 }) (codeOf_le _ _) ?_ ?_ ?_ (Nat.zero_le _)
  all_goals rw [hsetup]; simp [Drive.reset]

/-- Every row keeps both laws; a parameter changes in SETUP alone, where the drive rests. -/
theorem DriveRetry.change (hsetup : SetupLaw s) (h : DriveRetry s) (ht : Change s t) : DriveRetry t := by
  obtain ⟨hd, hcode⟩ := h
  have h : DriveRetry s := ⟨hd, hcode⟩
  obtain ⟨hdemand, hset, htarget, hback, htimer, hover, hrest, hclean, hopen, hcount, hretry, htrip⟩ := hd
  have hdisarmed (hn : s.drive.state ≠ .tripped) : s.drive.retry = none := by simpa [hn] using hretry
  cases ht with
  | same => exact h
  | setupTick x _ => exact h
  | powerOn | restarted => exact .of_reset rfl (Nat.zero_le _)
  | runningTick radio tpi _ => exact ⟨h.1.rampCount, h.2⟩
  | epochEnd _ => exact driveRetry_keptByParts.epochEnd h
  | pointTaken _ => exact h.congr (by simp [State.pointTaken]) (by simp [State.pointTaken]) (by simp [State.pointTaken])
  | onReferenceStart _ => exact driveRetry_keptByParts.openHere h
  | offStart _ => exact driveRetry_keptByParts.beginOff h
  | offEnd _ => exact driveRetry_keptByParts.endOff h
  | slotEnd code _ => exact driveRetry_keptByParts.endSlot h code
  | rampTick due => exact h.withDrive (h.1.rampStep due.1 _ _)
  | retryExpiry due =>
    have hlow : s.drive.retryCount < s.params.retryLimit := htrip due.1
    exact h.withDrive (.enterRamping hset hback (hclean (by simp [due.1])) rfl hlow)
  | cleanRun due =>
    exact h.setDrive ⟨hdemand, hset, htarget, hback, htimer, hover, hrest, fun _ => rfl, hopen, Nat.zero_le _, hretry,
      fun hn => absurd (due.1.symm.trans hn) (by decide)⟩
  | tpiPulse _ => exact driveRetry_keptByParts.pulse h
  | frameComplete body crc _ => exact driveRetry_keptByParts.examine (s := s.setLink s.link.hunt) h _ _ _
  | surveyBegin _ | surveyEnd _ => exact driveRetry_keptByParts.settleSurvey h _
  | loadParameter n v hpart _ =>
    obtain ⟨-, -, -, hdrive, hreg, -⟩ := hsetup hpart
    exact .of_reset hdrive hcode
  | start hpart _ => exact .begin (hsetup hpart).2.2.2.1
  | outputOff _ _ => exact h.withDrive (h.1.shutDown (.inl rfl))
  | outputOn _ hstate =>
    exact h.withDrive (.enterRamping hset hback (hclean (by simp [hstate])) (hdisarmed (by simp [hstate])) (Nat.zero_le _))
  | clearFault _ hstate =>
    refine h.withDrive (.enterRamping hset hback (hclean ?_) rfl (Nat.zero_le _))
    rcases hstate with hstate | hstate <;> simp [hstate]
  | _ => exact h.congr (by simp) (by simp) (by simp)

end DriveState

/-- Settles O55: every `Change` keeps the drive lawful. -/
theorem stepKeepsDriveLaws : Obligations.StepKeepsDriveLaws := by
  have hbefore : ReadsBlocks fun s => SetupLaw s ∧ DriveRetry s := by
    rintro s _ ⟨_, _, _, _, _, _, _, _, rfl⟩ h
    exact h
  have hafter : ReadsBlocks DriveRetry := by
    rintro s _ ⟨_, _, _, _, _, _, _, _, rfl⟩ h
    exact h
  intro s t hsetup hdrive hretry hstep
  exact (driveRetry_iff t).mp (step_leads hbefore hafter (fun x y hx hxy => hx.2.change hx.1 hxy)
    ⟨hsetup, (driveRetry_iff s).mpr ⟨hdrive, hretry⟩⟩ hstep)

end Sys2Proof.Machine

/-! # The attention set and the record queue over a step (R161 to R166) -/

namespace Sys2Proof.Machine

open Sys2Proof.Safety

section AttentionAndRecords

/-- The two laws of O56. -/
abbrev AttnRecords (s : State) : Prop := AttnLaw s ∧ RecordsLaw s

variable {s t : State}

theorem AttnRecords.congr (ha : t.port.attention = s.port.attention) (hattn : t.port.attn = s.port.attn)
    (hr : t.records = s.records) (h : AttnRecords s) : AttnRecords t := by
  rw [AttnRecords, AttnLaw, RecordsLaw, ha, hattn, hr]
  exact h

theorem Attention.latch_ne_empty (a : Attention) (r : Reason) : a.latch r ≠ Attention.empty := by
  cases r <;> simp [Attention.latch, Attention.empty]

/-- A latch asserts ATTN as it puts its reason in the set (R164, R166). -/
theorem AttnRecords.latch (h : AttnRecords s) (r : Reason) : AttnRecords (s.latch r) := by
  refine ⟨?_, h.2⟩
  rw [AttnLaw, State.latch_attention, State.latch_attn]
  exact (decide_eq_true (Attention.latch_ne_empty _ r)).symm

theorem AttnRecords.latchIf (h : AttnRecords s) (c : Prop) [Decidable c] (r : Reason) : AttnRecords (s.latchIf c r) := by
  unfold State.latchIf
  split_ifs
  · exact h.latch r
  · exact h

/-- A record that joins a queue in its bounds leaves it in its bounds, and not empty (R161, R162). -/
theorem Records.join_bounds {q : Records} (hlength : q.queue.length ≤ 64) (hdiscards : q.discards ≤ 255) (r : CycleRecord) :
    (q.join r).queue.length ≤ 64 ∧ (q.join r).discards ≤ 255 ∧ (q.join r).queue ≠ [] := by
  unfold Records.join
  split_ifs
  · simp
    omega
  · simp only [satSucc, List.length_append, List.length_tail, List.length_singleton]
    refine ⟨by omega, by split_ifs <;> omega, by simp⟩

theorem AttnRecords.addRecord (h : AttnRecords s) (r : CycleRecord) : AttnRecords (s.addRecord r) := by
  obtain ⟨hattn, hlength, hdiscards, -⟩ := h
  obtain ⟨jlength, jdiscards, jqueue⟩ := Records.join_bounds hlength hdiscards r
  unfold State.addRecord
  exact AttnRecords.latchIf (s := s.setRecords (s.records.join r)) ⟨hattn, jlength, jdiscards, fun hq => absurd hq jqueue⟩ _ _

theorem AttnRecords.trip (h : AttnRecords s) (c : TripCause) : AttnRecords (s.trip c) := by
  have hdrive (d : Drive) : AttnRecords (s.withDrive d) := h
  unfold State.trip State.lockOut
  split_ifs
  · exact (hdrive _).latch _
  · exact (hdrive _).latch _

theorem AttnRecords.openFilterSample (h : AttnRecords s) (v : Int) : AttnRecords (s.openFilterSample v) := by
  unfold State.openFilterSample
  split_ifs
  · exact h.trip _
  · exact h
  · exact h
  · exact h

theorem AttnRecords.protectionSample (h : AttnRecords s) (ch : Channel) (v : Int) : AttnRecords (s.protectionSample ch v) := by
  have hdrive (d : Drive) : AttnRecords (s.setDrive d) := h
  unfold State.protectionSample
  split_ifs
  · cases ch with
    | psp => exact h
    | outv => exact h
    | outi =>
      dsimp only
      unfold State.outiSample
      split_ifs
      · exact h.trip _
      · exact (hdrive _).openFilterSample v
      · exact (hdrive _).openFilterSample v
  · exact h

theorem AttnRecords.stuckSwitch (h : AttnRecords s) : AttnRecords s.stuckSwitch := by
  have hdrive (d : Drive) : AttnRecords (s.withDrive d) := h
  unfold State.stuckSwitch State.lockOut
  split
  · exact h
  · exact (hdrive _).latch _
  · exact (hdrive _).latch _
  · exact (hdrive _).latch _
  · exact h

theorem AttnRecords.handCode (h : AttnRecords s) : AttnRecords s.handCode :=
  h.congr (by simp) (by simp) (by simp)

theorem AttnRecords.regulate (h : AttnRecords s) (r : Reduction) : AttnRecords (s.regulate r) := by
  unfold State.regulate
  dsimp only
  refine AttnRecords.addRecord (AttnRecords.handCode ?_) _
  split
  · exact AttnRecords.latchIf (s := s.setReg (s.reg.held _)) h _ _
  · exact h

theorem AttnRecords.settleSurvey (h : AttnRecords s) (m : Move) : AttnRecords (s.settleSurvey m) := by
  have hplan {x : State} (hx : AttnRecords x) (p : Plan) : AttnRecords (x.setPlan p) := hx.congr (by simp) (by simp) (by simp)
  unfold State.settleSurvey
  split
  · exact hplan h _
  · refine hplan (AttnRecords.latchIf ?_ _ _) _
    exact h

theorem AttnRecords.takeNotice (h : AttnRecords s) (n : Notice) : AttnRecords (s.takeNotice n) := by
  obtain ⟨y, v, hy, hshape⟩ := takeNotice_cases s n
  have hy : AttnRecords (y.setSurvey v) := by rcases hy with rfl | rfl <;> exact h
  rcases hshape with hshape | hshape | hshape <;> rw [hshape]
  · exact hy
  · exact (hy.latch _).settleSurvey _
  · exact hy.settleSurvey _

theorem attnRecords_keptByParts : KeptByParts AttnRecords where
  setTimer h _ _ := h
  setAlign h _ := h
  setAcq h _ _ := h
  moveStamp h _ := h
  drawn h := h
  refreshSwitch h := h
  latch h r := h.latch r
  holdForSurvey h := h
  noteDrive h := h
  addRecord h r := h.addRecord r
  regulate h r := h.regulate r
  protectionSample h ch v := h.protectionSample ch v
  stuckSwitch h := h.stuckSwitch
  countCrc h := h
  countMalformed h := h
  countOutOfSpan h := h
  removeAged h := h
  reduceOffsets h _ := h
  admitted h _ _ _ _ _ := h
  moveSurvey h _ _ _ := h
  takeNotice h n := h.takeNotice n

/-- Every row keeps both laws. -/
theorem AttnRecords.change (h : AttnRecords s) (ht : Change s t) : AttnRecords t := by
  have hreset : RecordsLaw State.reset := ⟨Nat.zero_le _, Nat.zero_le _, fun _ => rfl⟩
  cases ht with
  | same => exact h
  | powerOn => exact ⟨rfl, hreset⟩
  | restarted => exact ⟨rfl, hreset⟩
  | setupTick x _ => exact h
  | runningTick radio tpi _ => exact h
  | epochEnd _ => exact attnRecords_keptByParts.epochEnd h
  | pointTaken _ => exact h.congr (by simp [State.pointTaken]) (by simp [State.pointTaken]) (by simp [State.pointTaken])
  | onReferenceStart _ => exact attnRecords_keptByParts.openHere h
  | offStart _ => exact attnRecords_keptByParts.beginOff h
  | offEnd _ => exact attnRecords_keptByParts.endOff h
  | slotEnd code _ => exact attnRecords_keptByParts.endSlot h code
  | tpiPulse _ => exact attnRecords_keptByParts.pulse h
  | frameComplete body crc _ => exact attnRecords_keptByParts.examine (s := s.setLink s.link.hunt) h _ _ _
  | surveyBegin _ | surveyEnd _ => exact h.settleSurvey _
  | start _ _ => exact h
  | readAttention => exact ⟨rfl, h.2⟩
  | readRecords n =>
    obtain ⟨hattn, hlength, -, -⟩ := h
    refine ⟨hattn, ?_, Nat.zero_le _, fun _ => rfl⟩
    have hleft : (s.records.read n).2.queue.length = s.records.queue.length - n := List.length_drop
    rw [State.setRecords_records, hleft]
    omega
  | surveyStart p a _ _ => exact AttnRecords.latch (s := State.setSurvey _ _) h _
  | _ => exact h.congr (by simp) (by simp) (by simp)

end AttentionAndRecords

/-- Settles O56: every `Change` keeps the two laws. -/
theorem stepKeepsAttentionAndRecords : Obligations.StepKeepsAttentionAndRecords := by
  have hreads : ReadsBlocks AttnRecords := by
    rintro s _ ⟨_, _, _, _, _, _, _, _, rfl⟩ h
    exact h
  intro s t hattn hrecords hstep
  exact step_leads hreads hreads (fun x y hx hxy => hx.change hxy) ⟨hattn, hrecords⟩ hstep

end Sys2Proof.Machine

/-! # The link controller over a step (R62, R65, R69 to R71)

`Link.Lawful` is what the three laws of O57 say of the link controller. Each of its operations keeps it, and the other blocks reach it
through tallies and the receive stamp alone.
-/

namespace Sys2Proof.Machine

open Sys2Proof.Safety

/-- The transmit queue, the transmitter, KEY and the receiver agree (R65, R69 to R71). -/
structure Link.Lawful (l : Link) : Prop where
  places : l.queue.length ≤ 6
  oneStatus : l.queue.count .status ≤ 1
  head : (l.tx = .defer ∨ l.tx = .backoff) ↔ (l.queue ≠ [] ∧ l.frame = none)
  idle : l.tx = .idle → l.queue = []
  window : l.window = 16 ∨ l.window = 32 ∨ l.window = 64
  attempts : l.attempts ≤ 8
  headAttempts : l.queue ≠ [] → l.attempts ≤ 7
  keyed : l.key = true ↔ (l.tx = .keyed ∨ l.tx = .sending)
  frameKeyed : l.frame.isSome ↔ l.key = true
  deaf : l.key = true → l.rx = .off

theorem linkLawful_iff (s : State) : s.link.Lawful ↔ TxQueueLaw s ∧ AccessLaw s ∧ KeyLaw s := by
  constructor
  · rintro ⟨hplaces, hone, hhead, hidle, hwindow, hattempts, hheads, hkeyed, hframe, hdeaf⟩
    exact ⟨⟨hplaces, hone⟩, ⟨hhead, hidle, hwindow, hattempts, hheads⟩, hkeyed, hframe, hdeaf⟩
  · rintro ⟨⟨hplaces, hone⟩, ⟨hhead, hidle, hwindow, hattempts, hheads⟩, hkeyed, hframe, hdeaf⟩
    exact ⟨hplaces, hone, hhead, hidle, hwindow, hattempts, hheads, hkeyed, hframe, hdeaf⟩

section LinkOperations

variable {l : Link}

/-- No law reads the tallies, the idle count, the bit timing or the frame in assembly, and of the receiver only whether it is OFF. -/
theorem Link.Lawful.congr {m : Link} (h : l.Lawful) (hqueue : m.queue = l.queue) (htx : m.tx = l.tx) (hframe : m.frame = l.frame)
    (hwindow : m.window = l.window) (hattempts : m.attempts = l.attempts) (hkey : m.key = l.key)
    (hrx : l.key = true → m.rx = .off) : m.Lawful := by
  obtain ⟨h1, h2, h3, h4, h5, h6, h7, h8, h9, -⟩ := h
  constructor <;> simp only [hqueue, htx, hframe, hwindow, hattempts, hkey] <;> assumption

/-- Without KEY the receiver may be in any state. -/
theorem Link.Lawful.receive (h : l.Lawful) (hrx : l.rx ≠ .off) (r : RxState) (bits : List Bool) (f : Option RxFrame) :
    { l with rx := r, bits := bits, assembly := f }.Lawful :=
  h.congr rfl rfl rfl rfl rfl rfl fun hkey => absurd (h.deaf hkey) hrx

/-- The next head enters DEFER with W 16 and attempt count 0, or the transmitter is IDLE (R65, R70, R71). -/
theorem Link.Lawful.nextHead (hplaces : l.queue.length ≤ 6) (hone : l.queue.count .status ≤ 1) (hframe : l.frame = none)
    (hkey : l.key = false) (hwindow : l.window = 16 ∨ l.window = 32 ∨ l.window = 64) (hattempts : l.attempts ≤ 8) :
    l.nextHead.Lawful := by
  unfold Link.nextHead Link.headArrives
  cases hq : l.queue with
  | nil => constructor <;> simp [hq, hframe, hkey, hwindow, hattempts]
  | cons e rest =>
    rw [hq] at hplaces hone
    constructor <;> simp_all

theorem Link.Lawful.releaseKey (h : l.Lawful) : l.releaseKey.Lawful :=
  .nextHead (l := { l with key := false, frame := none, rx := .hunt, bits := [], idleCount := 0 }) h.places h.oneStatus rfl rfl
    h.window h.attempts

/-- A frame joins a queue of fewer than 6, and a STATUS frame one without a STATUS frame (R65 to R67). -/
theorem Link.Lawful.join (h : l.Lawful) {e : TxEntry} (hplace : l.queue.length < 6) (hone : (l.queue ++ [e]).count .status ≤ 1) :
    (l.join e).Lawful := by
  have hlength : (l.queue ++ [e]).length ≤ 6 := by simpa using hplace
  obtain ⟨-, -, hhead, hidle, hwindow, hattempts, hheads, hkeyed, hframe, hdeaf⟩ := h
  unfold Link.join Link.headArrives
  cases hq : l.queue with
  | nil =>
    rw [hq] at hlength hone hhead
    cases hf : l.frame with
    | none =>
      have hkey : l.key = false := by simpa [hf] using hframe
      constructor <;> simp_all
    | some f =>
      have hkey : l.key = true := by simpa [hf] using hframe
      have htx := hkeyed.mp hkey
      constructor <;> simp_all
      rcases htx with htx | htx <;> simp [htx]
  | cons x rest =>
    rw [hq] at hlength hone hhead hidle hheads
    constructor <;> simp_all

/-- KEY is asserted for the head (R71). -/
theorem Link.Lawful.assertKey (h : l.Lawful) (now : Nat) : (l.assertKey now).Lawful := by
  obtain ⟨hplaces, hone, hhead, hidle, hwindow, hattempts, hheads, hkeyed, hframe, hdeaf⟩ := h
  unfold Link.assertKey
  cases hq : l.queue with
  | nil => exact ⟨hplaces, hone, hhead, hidle, hwindow, hattempts, hheads, hkeyed, hframe, hdeaf⟩
  | cons e rest =>
    rw [hq] at hplaces hone
    have hrest : rest.count .status ≤ 1 := (List.count_le_count_cons).trans hone
    have hlength : rest.length ≤ 6 := by simp at hplaces; omega
    unfold Link.headArrives
    cases rest with
    | nil => constructor <;> simp [hwindow, hattempts]
    | cons e' rest => constructor <;> simp_all

/-- A head in DEFER whose idle gap is met enters BACKOFF (R69). -/
theorem Link.Lawful.backoff (h : l.Lawful) (hdefer : l.tx = .defer) (at_ : Nat) :
    { l with tx := .backoff, backoffEnd := at_ }.Lawful := by
  obtain ⟨hplaces, hone, hhead, hidle, hwindow, hattempts, hheads, hkeyed, hframe, hdeaf⟩ := h
  constructor <;> simp_all

/-- A busy finding below the eighth: W doubles up to 64 (R70). -/
theorem Link.Lawful.defer (h : l.Lawful) (hback : l.tx = .backoff) (hcount : l.attempts + 1 ≤ 7) :
    { l with attempts := l.attempts + 1, window := min 64 (2 * l.window), tx := .defer }.Lawful := by
  obtain ⟨hplaces, hone, hhead, hidle, hwindow, hattempts, hheads, hkeyed, hframe, hdeaf⟩ := h
  have hdouble : min 64 (2 * l.window) = 16 ∨ min 64 (2 * l.window) = 32 ∨ min 64 (2 * l.window) = 64 := by
    rcases hwindow with hw | hw | hw <;> simp [hw]
  constructor <;> simp_all
  omega

/-- The preamble begins (R71). -/
theorem Link.Lawful.send (h : l.Lawful) (hkeyed : l.tx = .keyed) : { l with tx := .sending }.Lawful := by
  obtain ⟨hplaces, hone, hhead, hidle, hwindow, hattempts, hheads, hkey, hframe, hdeaf⟩ := h
  constructor <;> simp_all

/-- The transmitter's frame is built (R72). -/
theorem Link.Lawful.build (h : l.Lawful) (hsome : l.frame.isSome) (f : TxFrame) : { l with frame := some f }.Lawful := by
  obtain ⟨hplaces, hone, hhead, hidle, hwindow, hattempts, hheads, hkey, hframe, hdeaf⟩ := h
  obtain ⟨g, hg⟩ := Option.isSome_iff_exists.mp hsome
  constructor <;> simp_all

theorem Link.rxTick_rx_off (h : l.rx = .off) (r : RxLine) : (l.rxTick r).rx = .off := by
  unfold Link.rxTick
  split_ifs
  · exact (l.takeBit_rx_off _).mpr h
  · exact h

theorem Link.Lawful.rxTick (h : l.Lawful) (r : RxLine) : (l.rxTick r).Lawful := by
  obtain ⟨rx, bits, assembly, htick⟩ := l.rxTick_eq r
  refine h.congr ?_ ?_ ?_ ?_ ?_ ?_ fun hkey => Link.rxTick_rx_off (h.deaf hkey) r
  all_goals rw [htick]

theorem Link.Lawful.idleTick (h : l.Lawful) (cd : Bool) : (l.idleTick cd).Lawful := h.congr rfl rfl rfl rfl rfl rfl h.deaf

theorem Link.reset_lawful : Link.reset.Lawful := by
  constructor <;> simp [Link.reset]

end LinkOperations

section LinkState

variable {s t : State}

theorem Link.Lawful.countTxDrop (h : s.link.Lawful) : s.countTxDrop.link.Lawful := h.congr rfl rfl rfl rfl rfl rfl h.deaf

theorem Link.Lawful.requestStatus (h : s.link.Lawful) : s.requestStatus.link.Lawful := by
  unfold State.requestStatus
  split_ifs with hwaits hplace
  · exact h
  · refine h.join hplace ?_
    have hnone : s.link.queue.count .status = 0 := List.count_eq_zero.mpr hwaits
    simp [List.count_append, hnone]
  · exact h.countTxDrop

theorem Link.Lawful.offerCopy (h : s.link.Lawful) (n : Notice) : (s.offerCopy n).link.Lawful := by
  unfold State.offerCopy
  split_ifs with hplace
  · refine h.join hplace ?_
    simpa [List.count_append] using h.oneStatus
  · exact h.countTxDrop

theorem Link.Lawful.offerCopies (h : s.link.Lawful) (es : List SurveyEntry) : (s.offerCopies es).link.Lawful := by
  induction es generalizing s with
  | nil => exact h
  | cons e es ih =>
    rw [State.offerCopies]
    split_ifs
    · exact ih (h.offerCopy _)
    · exact ih h

theorem Link.Lawful.pointTaken (h : s.link.Lawful) : s.pointTaken.link.Lawful :=
  Link.Lawful.offerCopies (Link.Lawful.requestStatus (s := s.setTimer { s.timer with txPoint := none }) h) _

/-- A busy finding, whose eighth drops the head (R70). -/
theorem Link.Lawful.busyFinding (h : s.link.Lawful) (hback : s.link.tx = .backoff) : s.busyFinding.link.Lawful := by
  obtain ⟨hqueue, hframe⟩ := h.head.mp (.inr hback)
  have hattempts := h.headAttempts hqueue
  unfold State.busyFinding
  split_ifs with hdrop
  · refine Link.Lawful.countTxDrop (s := s.setLink _) (.nextHead (l := { s.link with queue := s.link.queue.tail, attempts := _ })
      ?_ ?_ hframe ?_ h.window ?_)
    · have := h.places
      simp
      omega
    · exact ((List.tail_sublist _).count_le _).trans h.oneStatus
    · have hkey : ¬ s.link.key = true := by simp [h.keyed, hback]
      simpa using hkey
    · dsimp only
      omega
  · exact h.defer hback (by omega)

theorem linkLawful_keptByParts : KeptByParts fun s => s.link.Lawful where
  setTimer h _ _ := h
  setAlign h _ := h
  setAcq h _ _ := h
  moveStamp h _ := h.congr rfl rfl rfl rfl rfl rfl h.deaf
  drawn h := h
  refreshSwitch h := h
  latch h _ := h
  holdForSurvey h := h
  noteDrive h := h
  addRecord h r := by simpa using h
  regulate h r := by simpa using h
  protectionSample h ch v := by simpa using h
  stuckSwitch h := by simpa using h
  countCrc h := h.congr rfl rfl rfl rfl rfl rfl h.deaf
  countMalformed h := h.congr rfl rfl rfl rfl rfl rfl h.deaf
  countOutOfSpan h := h.congr rfl rfl rfl rfl rfl rfl h.deaf
  removeAged h := h
  reduceOffsets h _ := h
  admitted h _ _ _ _ _ := h
  moveSurvey h _ _ _ := h
  takeNotice h n := by simpa using h

/-- Every row keeps the laws; START finds the link controller at rest. -/
theorem Link.Lawful.change (hsetup : SetupLaw s) (h : s.link.Lawful) (ht : Change s t) : t.link.Lawful := by
  cases ht with
  | same => exact h
  | setupTick x _ => exact h
  | powerOn | restarted => exact Link.reset_lawful
  | runningTick radio tpi _ => exact (h.idleTick radio.cd).rxTick radio.data
  | epochEnd _ => exact linkLawful_keptByParts.epochEnd h
  | pointTaken _ => exact h.pointTaken
  | tpiPulse _ => exact linkLawful_keptByParts.pulse h
  | idleGap due => exact h.backoff due.1 _
  | busyFinding due => exact h.busyFinding due.1
  | assertKey _ => exact h.assertKey _
  | preamble due => exact h.send due.1
  | stamp due => exact h.build (by simp [due.2.1]) _
  | releaseKey _ => exact h.releaseKey
  | syncMatch bits due => exact h.receive (by simp [due.1]) _ _ _
  | frameAbandoned length due => exact h.receive (by simp [due.1]) _ _ _
  | frameComplete body crc due =>
    exact linkLawful_keptByParts.examine (s := s.setLink s.link.hunt) (h.receive (by simp [due.1]) _ _ _) _ _ _
  | start hpart _ =>
    obtain ⟨-, -, -, -, -, hlink, -⟩ := hsetup hpart
    rw [begin_link, hlink]
    constructor <;> simp [Link.reset]
  | _ => simpa using h

end LinkState

/-- Settles O57: every `Change` keeps the link controller lawful. -/
theorem stepKeepsLinkLaws : Obligations.StepKeepsLinkLaws := by
  have hbefore : ReadsBlocks fun s => SetupLaw s ∧ s.link.Lawful := by
    rintro s _ ⟨_, _, _, _, _, _, _, _, rfl⟩ h
    exact h
  have hafter : ReadsBlocks fun s => s.link.Lawful := by
    rintro s _ ⟨_, _, _, _, _, _, _, _, rfl⟩ h
    exact h
  intro s t hsetup hqueue haccess hkey hstep
  exact (linkLawful_iff t).mp (step_leads hbefore hafter (fun x y hx hxy => hx.2.change hx.1 hxy)
    ⟨hsetup, (linkLawful_iff s).mpr ⟨hqueue, haccess, hkey⟩⟩ hstep)

end Sys2Proof.Machine

/-! # The two tables over a step (R81, R139, R141, R147)

`PeerTable` and `NoticeTable` are what the two laws of O58 say of the lists. Insertion, removal, the joining of an entry and the movement
of the adopted survey keep them.
-/

namespace Sys2Proof.Machine

open Sys2Proof.Safety

/-! ### The peer table -/

section PeerTable

/-- A peer table of a station with this number (R81). -/
structure PeerTable (own : Nat) (table : List Peer) : Prop where
  order : table.Pairwise TableOrder
  distinct : (table.map Peer.station).Nodup
  places : table.length ≤ 8
  notOwn : ∀ p ∈ table, p.station ≠ own

theorem peerTable_iff (s : State) : PeerTable s.params.station s.peers ↔ PeersLaw s :=
  ⟨fun ⟨h1, h2, h3, h4⟩ => ⟨h1, h2, h3, h4⟩, fun ⟨h1, h2, h3, h4⟩ => ⟨h1, h2, h3, h4⟩⟩

variable {own : Nat} {table : List Peer} {p q : Peer}

theorem insertPeer_perm (p : Peer) (table : List Peer) : (insertPeer p table).Perm (p :: table) := by
  induction table with
  | nil => exact .refl _
  | cons q qs ih =>
    rw [insertPeer]
    split_ifs
    · exact .refl _
    · exact (ih.cons q).trans (.swap p q qs)

theorem mem_insertPeer : q ∈ insertPeer p table ↔ q = p ∨ q ∈ table := by
  rw [(insertPeer_perm p table).mem_iff, List.mem_cons]

theorem tableOrder_trans {r : Peer} (hpq : TableOrder p q) (hqr : TableOrder q r) : TableOrder p r := by
  unfold TableOrder at *
  omega

/-- An entry of a new station is inserted at its place (R81). -/
theorem insertPeer_order (horder : table.Pairwise TableOrder) (hnew : ∀ q ∈ table, q.station ≠ p.station) :
    (insertPeer p table).Pairwise TableOrder := by
  induction table with
  | nil => exact List.pairwise_singleton _ _
  | cons q qs ih =>
    obtain ⟨hq, hqs⟩ := List.pairwise_cons.mp horder
    rw [insertPeer]
    split_ifs with hbefore
    · refine List.pairwise_cons.mpr ⟨fun x hx => ?_, horder⟩
      rcases List.mem_cons.mp hx with rfl | hx
      · exact hbefore
      · exact tableOrder_trans hbefore (hq x hx)
    · refine List.pairwise_cons.mpr ⟨fun x hx => ?_, ih hqs fun x hx => hnew x (List.mem_cons_of_mem _ hx)⟩
      rcases mem_insertPeer.mp hx with rfl | hx
      · have hne := hnew q List.mem_cons_self
        unfold Peer.precedes at hbefore
        unfold TableOrder
        omega
      · exact hq x hx

theorem PeerTable.insert (h : PeerTable own table) (hplace : table.length < 8) (hnew : ∀ q ∈ table, q.station ≠ p.station)
    (hown : p.station ≠ own) : PeerTable own (insertPeer p table) where
  order := insertPeer_order h.order hnew
  distinct := by
    rw [((insertPeer_perm p table).map Peer.station).nodup_iff, List.map_cons, List.nodup_cons]
    refine ⟨fun hp => ?_, h.distinct⟩
    obtain ⟨q, hq, hstation⟩ := List.mem_map.mp hp
    exact hnew q hq hstation
  places := by
    rw [(insertPeer_perm p table).length_eq, List.length_cons]
    exact hplace
  notOwn q hq := by
    rcases mem_insertPeer.mp hq with rfl | hq
    · exact hown
    · exact h.notOwn q hq

/-- Entries leave the table. -/
theorem PeerTable.sublist (h : PeerTable own table) {left : List Peer} (hleft : left.Sublist table) : PeerTable own left where
  order := h.order.sublist hleft
  distinct := h.distinct.sublist (hleft.map _)
  places := hleft.length_le.trans h.places
  notOwn q hq := h.notOwn q (hleft.subset hq)

/-- Entries change, but for their chainages and stations. -/
theorem PeerTable.map (h : PeerTable own table) {f : Peer → Peer} (hstation : ∀ q, (f q).station = q.station)
    (hchainage : ∀ q, (f q).chainage = q.chainage) : PeerTable own (table.map f) where
  order := List.pairwise_map.mpr (h.order.imp fun hpq => by simpa only [TableOrder, hstation, hchainage] using hpq)
  distinct := by
    have hsame : Peer.station ∘ f = Peer.station := funext hstation
    rw [List.map_map, hsame]
    exact h.distinct
  places := by rw [List.length_map]; exact h.places
  notOwn q hq := by
    obtain ⟨x, hx, rfl⟩ := List.mem_map.mp hq
    rw [hstation]
    exact h.notOwn x hx

theorem removePeer_length_lt (hq : q ∈ table) : (removePeer q.station table).length < table.length :=
  List.length_filter_lt_length_iff_exists.mpr ⟨q, hq, by simp⟩

theorem removePeer_station {station : Nat} (hq : q ∈ removePeer station table) : q.station ≠ station :=
  of_decide_eq_true (List.mem_filter.mp hq).2

theorem findPeer_none {station : Nat} (h : findPeer station table = none) : ∀ q ∈ table, q.station ≠ station := fun q hq heq => by
  simpa [heq] using List.find?_eq_none.mp h q hq

theorem findPeer_some {station : Nat} (h : findPeer station table = some q) : q ∈ table ∧ q.station = station :=
  ⟨List.mem_of_find?_eq_some h, of_decide_eq_true (List.find?_some (p := fun p : Peer => decide (p.station = station)) h)⟩

theorem farthest_mem {ps : Params} (h : farthest ps table = some q) : q ∈ table := by
  induction table generalizing q with
  | nil => simp [farthest] at h
  | cons p t ih =>
    rw [farthest] at h
    split at h
    · simp_all
    next x hx =>
      split_ifs at h
      · simp_all
      · exact List.mem_cons_of_mem _ (ih (hx.trans h))

/-- What an admitted frame leaves of the table it joins: the sender's entry afresh, a place taken, or the farthest entry replaced (R86 to
R88). -/
theorem admission_admitted {f : Status} {stamp : Nat} {s : State} (h : admission f stamp s = .admitted table p) :
    f.station ≠ s.params.station ∧ p.station = f.station ∧ ∃ left : List Peer, table = insertPeer p left ∧
      left.Sublist s.peers ∧ (∀ q ∈ left, q.station ≠ f.station) ∧ (s.peers.length ≤ 8 → left.length < 8) := by
  unfold admission at h
  split at h
  · cases h
  next hown =>
  refine ⟨hown, ?_⟩
  split at h
  · cases h
  split at h
  next old hold =>
    obtain ⟨rfl, rfl⟩ := Admission.admitted.inj h
    obtain ⟨hmem, hstation⟩ := findPeer_some hold
    have hlength := hstation ▸ removePeer_length_lt hmem
    exact ⟨rfl, _, rfl, List.filter_sublist, fun q hq => removePeer_station hq, hlength.trans_le⟩
  next hnone =>
    have hnew := findPeer_none hnone
    dsimp only at h
    split at h
    next hplace =>
      obtain ⟨rfl, rfl⟩ := Admission.admitted.inj h
      exact ⟨rfl, _, rfl, .refl _, hnew, fun _ => hplace⟩
    next =>
      split at h
      next q hq =>
        split_ifs at h
        obtain ⟨rfl, rfl⟩ := Admission.admitted.inj h
        exact ⟨rfl, _, rfl, List.filter_sublist, fun x hx => hnew x (List.mem_filter.mp hx).1,
          (removePeer_length_lt (farthest_mem hq)).trans_le⟩
      next => cases h

theorem PeerTable.admitted {f : Status} {stamp : Nat} {s : State} (h : PeerTable s.params.station s.peers)
    (hadmitted : admission f stamp s = .admitted table p) : PeerTable s.params.station table := by
  obtain ⟨hown, hp, left, rfl, hleft, hnew, hplace⟩ := admission_admitted hadmitted
  refine (h.sublist hleft).insert (hplace h.places) ?_ ?_
  · rw [hp]
    exact hnew
  · rw [hp]
    exact hown

end PeerTable

section PeerState

variable {s t : State}

/-- The peer table of a state is lawful. -/
abbrev PeersLawful (s : State) : Prop := PeerTable s.params.station s.peers

theorem PeersLawful.congr (h : PeersLawful s) (hparams : t.port.params = s.port.params) (hpeers : t.peers = s.peers) :
    PeersLawful t := by
  rw [PeersLawful, State.params, hparams, hpeers]
  exact h

theorem peersLawful_keptByParts : KeptByParts PeersLawful where
  setTimer h _ _ := h
  setAlign h _ := h
  setAcq h _ _ := h
  moveStamp h _ := h
  drawn h := h
  refreshSwitch h := h
  latch h _ := h
  holdForSurvey h := h
  noteDrive h := h
  addRecord h _ := h.congr (by simp) (by simp)
  regulate h _ := h.congr (by simp) (by simp)
  protectionSample h _ _ := h.congr (by simp) (by simp)
  stuckSwitch h := h.congr (by simp) (by simp)
  countCrc h := h
  countMalformed h := h
  countOutOfSpan h := h
  removeAged h := h.sublist List.filter_sublist
  reduceOffsets h _ := h.map (fun _ => rfl) (fun _ => rfl)
  admitted h _ _ _ _ hadmitted := h.admitted hadmitted
  moveSurvey h _ _ _ := h
  takeNotice h _ := h.congr (by simp) (by simp)

theorem peerTable_nil (own : Nat) : PeerTable own [] := ⟨.nil, .nil, Nat.zero_le _, fun _ h => nomatch h⟩

/-- Every row keeps the peer table lawful; the own number changes in SETUP alone, where the table is empty. -/
theorem PeersLawful.change (hsetup : SetupLaw s) (h : PeersLawful s) (ht : Change s t) : PeersLawful t := by
  cases ht with
  | same => exact h
  | setupTick x _ => exact h
  | runningTick radio tpi _ => exact h
  | powerOn | restarted => exact peerTable_nil _
  | epochEnd _ => exact peersLawful_keptByParts.epochEnd h
  | pointTaken _ => exact h.congr (by simp [State.pointTaken]) (by simp [State.pointTaken])
  | tpiPulse _ => exact peersLawful_keptByParts.pulse h
  | frameComplete body crc _ => exact peersLawful_keptByParts.examine (s := s.setLink s.link.hunt) h _ _ _
  | loadParameter n v hpart _ =>
    obtain ⟨-, -, -, -, -, -, hpeers, -⟩ := hsetup hpart
    rw [PeersLawful, State.setPort_peers, hpeers]
    exact peerTable_nil _
  | start _ _ => exact h
  | _ => exact h.congr (by simp) (by simp)

end PeerState

/-! ### The notice table -/

section NoticeTable

/-- A notice table but for its adopted entries (R139). -/
structure NoticeTable (table : List SurveyEntry) : Prop where
  places : table.length ≤ 4
  distinct : (table.map SurveyEntry.id).Nodup

/-- How many entries are adopted. -/
def adoptedCount (table : List SurveyEntry) : Nat := table.countP fun e => decide e.adopted

/-- The notice table of a state is lawful (R139). -/
abbrev NoticesLawful (v : Survey) : Prop := NoticeTable v.table ∧ adoptedCount v.table ≤ 1

theorem noticesLawful_iff (s : State) : NoticesLawful s.survey ↔ NoticesLaw s := by
  unfold NoticesLawful adoptedCount NoticesLaw
  rw [List.countP_eq_length_filter]
  exact ⟨fun ⟨⟨h1, h2⟩, h3⟩ => ⟨h1, h2, h3⟩, fun ⟨h1, h2, h3⟩ => ⟨⟨h1, h2⟩, h3⟩⟩

variable {table : List SurveyEntry} {v : Survey} {e : SurveyEntry}

theorem NoticeTable.map (h : NoticeTable table) {f : SurveyEntry → SurveyEntry} (hid : ∀ e, (f e).id = e.id) :
    NoticeTable (table.map f) where
  places := by rw [List.length_map]; exact h.places
  distinct := by
    have hsame : SurveyEntry.id ∘ f = SurveyEntry.id := funext hid
    rw [List.map_map, hsame]
    exact h.distinct

theorem NoticeTable.sublist (h : NoticeTable table) {left : List SurveyEntry} (hleft : left.Sublist table) : NoticeTable left where
  places := hleft.length_le.trans h.places
  distinct := h.distinct.sublist (hleft.map _)

/-- An identity stands in one entry alone. -/
theorem NoticeTable.eq_of_id (h : NoticeTable table) {x : SurveyEntry} (hx : x ∈ table) (he : e ∈ table) (hid : x.id = e.id) :
    x = e := List.inj_on_of_nodup_map h.distinct hx he hid

/-- Entries change without becoming adopted. -/
theorem adoptedCount_map_le {f : SurveyEntry → SurveyEntry} (hf : ∀ e ∈ table, (f e).adopted → e.adopted) :
    adoptedCount (table.map f) ≤ adoptedCount table := by
  unfold adoptedCount
  rw [List.countP_map]
  refine List.countP_mono_left fun e he hadopted => ?_
  exact decide_eq_true (hf e he (of_decide_eq_true hadopted))

/-- Adopted entries of one identity are one entry at most. -/
theorem adoptedCount_le_one (h : NoticeTable table) (id : SurveyId) (hone : ∀ e ∈ table, e.adopted → e.id = id) :
    adoptedCount table ≤ 1 := by
  have hdistinct : ((table.filter fun e => decide e.adopted).map SurveyEntry.id).Nodup :=
    h.distinct.sublist (List.filter_sublist.map _)
  have hsub : (table.filter fun e => decide e.adopted).map SurveyEntry.id ⊆ [id] := fun i hi => by
    obtain ⟨e, he, rfl⟩ := List.mem_map.mp hi
    obtain ⟨hmem, hadopted⟩ := List.mem_filter.mp he
    exact List.mem_singleton.mpr (hone e hmem (of_decide_eq_true hadopted))
  have hle := (hdistinct.subperm hsub).length_le
  rw [List.length_map] at hle
  unfold adoptedCount
  rw [List.countP_eq_length_filter]
  exact hle

theorem dropOldest_sublist (table : List SurveyEntry) : (dropOldest table).Sublist table := by
  induction table with
  | nil => exact .refl _
  | cons e es ih =>
    rw [dropOldest]
    split_ifs
    · exact ih.cons_cons e
    · exact List.sublist_cons_self e es

/-- An entry leaves a table that holds one that is not adopted (R141). -/
theorem dropOldest_length_lt (h : adoptedCount table < table.length) : (dropOldest table).length < table.length := by
  induction table with
  | nil => exact absurd h (Nat.not_lt_zero _)
  | cons e es ih =>
    rw [dropOldest]
    split_ifs with he
    · have hes : adoptedCount es < es.length := by simpa [adoptedCount, he] using h
      simpa using ih hes
    · exact Nat.lt_succ_self _

/-- The entries that a new entry joins (R139, R141). -/
def Survey.roomFor (v : Survey) : List SurveyEntry := if v.table.length < 4 then v.table else dropOldest v.table

theorem Survey.add_table (v : Survey) (e : SurveyEntry) : (v.add e).table = v.roomFor ++ [e] := rfl

theorem Survey.roomFor_sublist (v : Survey) : v.roomFor.Sublist v.table := by
  unfold Survey.roomFor
  split_ifs
  · exact .refl _
  · exact dropOldest_sublist _

theorem Survey.roomFor_length (h : NoticesLawful v) : v.roomFor.length < 4 := by
  obtain ⟨⟨hplaces, -⟩, hcount⟩ := h
  unfold Survey.roomFor
  split_ifs with hroom
  · exact hroom
  · exact (dropOldest_length_lt (by omega)).trans_le hplaces

/-- An entry of a new identity joins (R139, R141). -/
theorem NoticeTable.add (h : NoticesLawful v) (hnew : ∀ x ∈ v.table, x.id ≠ e.id) : NoticeTable (v.add e).table where
  places := by
    have hroom := Survey.roomFor_length h
    rw [Survey.add_table, List.length_append, List.length_singleton]
    omega
  distinct := by
    rw [Survey.add_table, List.map_append, List.map_singleton, ← List.concat_eq_append]
    refine (h.1.distinct.sublist (v.roomFor_sublist.map _)).concat fun hmem => ?_
    obtain ⟨x, hx, hid⟩ := List.mem_map.mp hmem
    exact hnew x (v.roomFor_sublist.subset hx) hid

/-- An entry of a new identity joins; when it is adopted, no other is. -/
theorem NoticesLawful.add (h : NoticesLawful v) (hnew : ∀ x ∈ v.table, x.id ≠ e.id)
    (hone : e.adopted → ∀ x ∈ v.table, ¬ x.adopted) : NoticesLawful (v.add e) := by
  refine ⟨.add h hnew, ?_⟩
  have hroom : adoptedCount v.roomFor ≤ adoptedCount v.table := v.roomFor_sublist.countP_le
  have hsplit : adoptedCount (v.roomFor ++ [e]) = adoptedCount v.roomFor + adoptedCount [e] := List.countP_append
  have hle := h.2
  rw [Survey.add_table, hsplit]
  by_cases he : e.adopted
  · have hnone : adoptedCount v.table = 0 := List.countP_eq_zero.mpr fun x hx => by simpa using hone he x hx
    have hsingle : adoptedCount [e] ≤ 1 := List.countP_le_length
    omega
  · have hsingle : adoptedCount [e] = 0 := List.countP_eq_zero.mpr fun x hx => by
      rw [List.mem_singleton.mp hx]
      simpa using he
    omega

/-- An entry of a new identity joins, and every other adopted entry becomes SUPERSEDED (R147). -/
theorem NoticesLawful.supersede (h : NoticesLawful v) (hnew : ∀ x ∈ v.table, x.id ≠ e.id) :
    NoticesLawful ((v.add e).supersedeOthers e.id) := by
  have htable : NoticeTable ((v.add e).supersedeOthers e.id).table := (NoticeTable.add h hnew).map fun x => by split_ifs <;> rfl
  refine ⟨htable, adoptedCount_le_one htable e.id fun y hy hadopted => ?_⟩
  obtain ⟨x, -, rfl⟩ := List.mem_map.mp hy
  by_contra hother
  split_ifs at hadopted hother with hx
  · exact absurd hadopted (by simp)
  · exact hx ⟨hadopted, hother⟩

/-- The entry of an identity changes without becoming adopted. -/
theorem NoticesLawful.update (h : NoticesLawful v) {id : SurveyId} {f : SurveyEntry → SurveyEntry} (hid : ∀ e, (f e).id = e.id)
    (hf : ∀ e ∈ v.table, e.id = id → (f e).adopted → e.adopted) : NoticesLawful (v.update id f) := by
  refine ⟨h.1.map fun e => ?_, (adoptedCount_map_le fun e he hadopted => ?_).trans h.2⟩
  · split_ifs
    · exact hid e
    · rfl
  · split_ifs at hadopted with hx
    · exact hf e he hx hadopted
    · exact hadopted

/-- The adopted entry changes in any way but its identity. -/
theorem NoticesLawful.updateAdopted (h : NoticesLawful v) (he : v.adoptedEntry = some e) {f : SurveyEntry → SurveyEntry}
    (hid : ∀ e, (f e).id = e.id) : NoticesLawful (v.update e.id f) := by
  refine h.update hid fun x hx hxe _ => ?_
  rw [h.1.eq_of_id hx (List.mem_of_find?_eq_some he) hxe]
  exact of_decide_eq_true (List.find?_some (p := fun e : SurveyEntry => decide e.adopted) he)

theorem entryOf_none {id : SurveyId} (h : v.entryOf id = none) : ∀ x ∈ v.table, x.id ≠ id := fun x hx heq => by
  simpa [heq] using List.find?_eq_none.mp h x hx

theorem adoptedEntry_none (h : v.adoptedEntry = none) : ∀ x ∈ v.table, ¬ x.adopted := fun x hx => by
  simpa using List.find?_eq_none.mp h x hx

end NoticeTable

section NoticeState

variable {s t : State}

theorem settleSurvey_noticesLawful (h : NoticesLawful s.survey) (m : Move) : NoticesLawful (s.settleSurvey m).survey := by
  unfold State.settleSurvey
  split
  · simpa using h
  next e he => simpa using h.updateAdopted he (f := fun x => { x with state := e.moved m s.timer.lineTime }) fun _ => rfl

theorem relayedStart_id (s : State) (n : Notice) (e : SurveyEntry) : (relayedStart s n e).id = e.id := by
  unfold relayedStart
  split_ifs <;> rfl

theorem relayedStart_state (s : State) (n : Notice) (e : SurveyEntry) : (relayedStart s n e).state = e.state := by
  unfold relayedStart
  split_ifs <;> rfl

@[simp] theorem State.relayDrawn_survey (s : State) (c : Prop) [Decidable c] : (s.relayDrawn c).survey = s.survey := by
  rcases s.relayDrawn_cases c with h | h <;> rw [h]
  rfl

/-- An entry that is not adopted joins (R146, R147, R151). -/
theorem NoticesLawful.addRecorded (h : NoticesLawful s.survey) {id : SurveyId} (hnew : s.survey.entryOf id = none) {e : SurveyEntry}
    (hid : e.id = id) (hstate : ¬ e.adopted) : NoticesLawful (s.survey.add e) :=
  h.add (hid ▸ entryOf_none hnew) fun he => absurd he hstate

theorem takeStart_noticesLawful (h : NoticesLawful s.survey) (n : Notice) (p : SurveyParams) :
    NoticesLawful (s.takeStart n p).survey := by
  by_cases hknown : (s.survey.entryOf n.id).isSome
  · rw [takeStart_of_known hknown]
    exact h.update (fun _ => rfl) fun _ _ _ hadopted => hadopted
  have hnew : s.survey.entryOf n.id = none := Option.not_isSome_iff_eq_none.mp hknown
  by_cases hpast : ¬ inSpan s.params n.spanFrom n.spanTo ∨
    ¬ ((startEntry n p .ignored s.timer.tally).within s.timer.lineTime ∨
      (startEntry n p .ignored s.timer.tally).waits s.timer.lineTime)
  · rw [takeStart_of_ignored hknown hpast]
    exact h.addRecorded hnew rfl (by simp [SurveyEntry.unrelayed, startEntry])
  rw [takeStart_of_judged hknown hpast]
  by_cases hadopts : s.adoptsNotice n.id p = true
  · rw [judgeStart_of_adopted hadopts]
    refine settleSurvey_noticesLawful ?_ _
    have hid : (relayedStart s n (startEntry n p .pending s.timer.tally)).id = n.id := relayedStart_id _ _ _
    have hlawful := h.supersede (e := relayedStart s n (startEntry n p .pending s.timer.tally)) (hid ▸ entryOf_none hnew)
    rw [hid] at hlawful
    simpa using hlawful
  · rw [judgeStart_of_lost hadopts]
    simpa using h.addRecorded hnew (relayedStart_id s n (startEntry n p .superseded s.timer.tally))
      (by simp [SurveyEntry.adopted, relayedStart_state, startEntry])

theorem SurveyEntry.relayHalt_id (e : SurveyEntry) (ps : Params) (n : Notice) : (e.relayHalt ps n).id = e.id := by
  unfold SurveyEntry.relayHalt
  split_ifs <;> rfl

theorem SurveyEntry.relayHalt_state (e : SurveyEntry) (ps : Params) (n : Notice) : (e.relayHalt ps n).state = e.state := by
  unfold SurveyEntry.relayHalt
  split_ifs <;> rfl

theorem SurveyEntry.tookHalt_id (e : SurveyEntry) (h : Nat) : (e.tookHalt h).id = e.id := by
  unfold SurveyEntry.tookHalt
  split_ifs <;> rfl

/-- The first HALT adopts nothing (R150, R151). -/
theorem SurveyEntry.tookHalt_adopted {e : SurveyEntry} {h : Nat} (hadopted : (e.tookHalt h).adopted) : e.adopted := by
  unfold SurveyEntry.tookHalt at hadopted
  split_ifs at hadopted with he
  · exact he
  · cases hs : e.state <;> simp_all [EntryState.afterHalt, SurveyEntry.adopted]

theorem takeHaltNotice_noticesLawful (h : NoticesLawful s.survey) (n : Notice) (at_ : Nat) :
    NoticesLawful (s.takeHaltNotice n at_).survey := by
  cases hold : s.survey.entryOf n.id with
  | none =>
    rw [takeHaltNotice_of_unknown hold]
    split_ifs
    · exact h.addRecorded hold rfl (by simp [SurveyEntry.relayed, haltEntry])
    · exact h.addRecorded hold rfl (by simp [SurveyEntry.unrelayed, haltEntry])
  | some old =>
    cases hhalt : old.halt with
    | some _ =>
      rw [takeHaltNotice_of_halted hold (by simp [hhalt])]
      exact h.update (fun _ => rfl) fun _ _ _ hadopted => hadopted
    | none =>
      have hnoted : NoticesLawful (s.haltNoted n at_) :=
        h.update (fun e => by rw [SurveyEntry.relayHalt_id, SurveyEntry.tookHalt_id]) fun e _ _ hadopted =>
          SurveyEntry.tookHalt_adopted (h := at_) (by simpa only [SurveyEntry.adopted, SurveyEntry.relayHalt_state] using hadopted)
      rw [takeHaltNotice_of_first hold hhalt]
      split_ifs
      · exact settleSurvey_noticesLawful hnoted _
      · exact hnoted

theorem notices_keptByParts : KeptByParts fun s => NoticesLawful s.survey where
  setTimer h _ _ := h
  setAlign h _ := h
  setAcq h _ _ := h
  moveStamp h _ := h
  drawn h := h
  refreshSwitch h := h
  latch h _ := h
  holdForSurvey h := h
  noteDrive h := h
  addRecord h _ := by simpa using h
  regulate h _ := by simpa using h
  protectionSample h _ _ := by simpa using h
  stuckSwitch h := by simpa using h
  countCrc h := h
  countMalformed h := h
  countOutOfSpan h := h
  removeAged h := h
  reduceOffsets h _ := h
  admitted h _ _ _ _ _ := h
  moveSurvey h _ he _ := h.updateAdopted he fun _ => rfl
  takeNotice {s} h n := by
    unfold State.takeNotice
    split
    · exact takeStart_noticesLawful h n _
    · exact takeHaltNotice_noticesLawful h n _

theorem noticesLawful_reset (v : Survey) (hv : v.table = []) : NoticesLawful v := by
  rw [NoticesLawful, hv]
  exact ⟨⟨Nat.zero_le _, .nil⟩, Nat.zero_le _⟩

/-- SURVEY START: the own identity leaves the table before it joins anew (R143). -/
theorem acceptSurvey_noticesLawful (h : NoticesLawful s.survey) (hnone : s.survey.adoptedEntry = none) (p : SurveyParams)
    (a : SurveyArgs) : NoticesLawful (s.acceptSurvey p a).survey := by
  have hleft (id : SurveyId) (n : Nat) :
      NoticesLawful { table := s.survey.table.filter fun e => decide (e.id ≠ id), ownSeq := n } :=
    ⟨h.1.sublist List.filter_sublist, (List.filter_sublist.countP_le).trans h.2⟩
  refine NoticesLawful.add (hleft _ _) (fun x hx => of_decide_eq_true (List.mem_filter.mp hx).2) fun _ x hx => ?_
  exact adoptedEntry_none hnone x (List.mem_filter.mp hx).1

theorem noticesLawful_change (h : NoticesLawful s.survey) (ht : Change s t) : NoticesLawful t.survey := by
  cases ht with
  | same => exact h
  | setupTick x _ => exact h
  | runningTick radio tpi _ => exact h
  | powerOn | restarted => exact noticesLawful_reset _ rfl
  | epochEnd _ => exact notices_keptByParts.epochEnd h
  | pointTaken _ =>
    have hcopies : NoticesLawful s.survey.countCopies :=
      ⟨h.1.map (f := fun e => { e with copiesLeft := e.copiesLeft - 1 }) fun _ => rfl,
        (adoptedCount_map_le (f := fun e => { e with copiesLeft := e.copiesLeft - 1 }) fun _ _ he => he).trans h.2⟩
    simpa [State.pointTaken] using hcopies
  | tpiPulse _ => exact notices_keptByParts.pulse h
  | frameComplete body crc _ => exact notices_keptByParts.examine (s := s.setLink s.link.hunt) h _ _ _
  | surveyBegin _ | surveyEnd _ => exact settleSurvey_noticesLawful h _
  | surveyStart p a _ hnone => exact acceptSurvey_noticesLawful h hnone p a
  | surveyHalt e at_ _ he => exact h.updateAdopted he fun _ => rfl
  | start _ _ => exact h
  | _ => simpa using h

end NoticeState

/-- Settles O58: every `Change` keeps both tables lawful. -/
theorem stepKeepsTableLaws : Obligations.StepKeepsTableLaws := by
  have hbefore : ReadsBlocks fun s => SetupLaw s ∧ PeersLawful s ∧ NoticesLawful s.survey := by
    rintro s _ ⟨_, _, _, _, _, _, _, _, rfl⟩ h
    exact h
  have hafter : ReadsBlocks fun s => PeersLawful s ∧ NoticesLawful s.survey := by
    rintro s _ ⟨_, _, _, _, _, _, _, _, rfl⟩ h
    exact h
  intro s t hsetup hpeers hnotices hstep
  obtain ⟨hpeers, hnotices⟩ := step_leads hbefore hafter
    (fun x y ⟨hxsetup, hxpeers, hxnotices⟩ hxy => ⟨hxpeers.change hxsetup hxy, noticesLawful_change hxnotices hxy⟩)
    ⟨hsetup, (peerTable_iff s).mpr hpeers, (noticesLawful_iff s).mpr hnotices⟩ hstep
  exact ⟨(peerTable_iff t).mp hpeers, (noticesLawful_iff t).mp hnotices⟩

end Sys2Proof.Machine

/-! # SETUP at rest, the run of RUNNING, line time, the alignment unit, the setpoint and the parameters over a step

The six laws of O59 are kept one by one: most rows leave what a law reads, and the alignment unit, the line timer and the regulator say
what the others do with it.
-/

namespace Sys2Proof.Machine

open Sys2Proof.Safety

/-! ### SETUP (R3, R4, R19, R20, R40, R62, R81, R97, R121, R139, R161, R164, R181) -/

section Setup

variable {s t : State}

/-- Every row keeps the blocks of SETUP at rest: no event is due there, and a command that is not refused finds nothing to do, changes the
record or the line time to start from, or begins the run. -/
theorem setupLaw_change (h : SetupLaw s) (ht : Change s t) : SetupLaw t := by
  intro hpart
  have running {p : Prop} (hrunning : s.running) (hsame : t.port.part = s.port.part) : p :=
    absurd (hrunning.symm.trans (hsame.symm.trans hpart)) (by decide)
  have rest (hsame : t.port.part = s.port.part) := h (hsame.symm.trans hpart)
  cases ht with
  | same => exact h hpart
  | powerOn | restarted => exact ⟨rfl, rfl, rfl, rfl, rfl, rfl, rfl, rfl, rfl, rfl, rfl⟩
  | setupTick x _ =>
    obtain ⟨htimer, hrest⟩ := h hpart
    refine ⟨?_, hrest⟩
    rw [State.setupTick, State.setTimer_timer, htimer]
    rfl
  | runningTick radio tpi hrunning => exact running hrunning rfl
  | epochEnd due => exact running due.1 (by simp)
  | pointTaken due => exact running due.1 (by simp [State.pointTaken])
  | onReferenceStart due => exact running due.1 (by simp)
  | tpiArm due => exact running due.1 rfl
  | tpiPulse due => exact running due.1 (by simp)
  | surveyStart p a hrunning _ => exact running hrunning (by simp)
  | surveyHalt e at_ hrunning _ => exact running hrunning rfl
  | outputOff hrunning _ => exact running hrunning rfl
  | outputOn hrunning _ => exact running hrunning rfl
  | clearFault hrunning _ => exact running hrunning rfl
  | start _ _ => cases hpart
  | loadParameter n v hsetup _ => exact h hsetup
  | setLineTime time hsetup _ =>
    obtain ⟨htimer, hrest⟩ := h hsetup
    refine ⟨?_, hrest⟩
    rw [State.setTimer_timer, htimer]
    rfl
  | readAttention =>
    obtain ⟨h1, h2, h3, h4, h5, h6, h7, h8, h9, -, -⟩ := rest rfl
    exact ⟨h1, h2, h3, h4, h5, h6, h7, h8, h9, rfl, rfl⟩
  | readRecords n =>
    obtain ⟨h1, h2, h3, h4, h5, h6, h7, h8, hrecords, hattention⟩ := rest rfl
    refine ⟨h1, h2, h3, h4, h5, h6, h7, h8, ?_, hattention⟩
    rw [State.setRecords_records, hrecords]
    simp [Records.read, Records.reset]
  | captureOpen id hid =>
    obtain ⟨-, -, hacq, -⟩ := rest rfl
    rw [hacq] at hid
    cases hid
  | captureClose id hid =>
    obtain ⟨-, -, hacq, -⟩ := rest rfl
    rw [hacq] at hid
    cases hid
  | offStart due | offEnd due | markEnd due =>
    obtain ⟨htimer, -⟩ := rest (by simp)
    have hnow := due.1
    rw [htimer] at hnow
    cases hnow
  | slotEnd code due =>
    obtain ⟨-, -, hacq, -⟩ := rest (by simp)
    have hrunning := due.1
    rw [hacq] at hrunning
    cases hrunning
  | rampTick due | retryExpiry due | cleanRun due =>
    obtain ⟨-, -, -, hdrive, -⟩ := rest rfl
    have hstate := due.1
    rw [hdrive] at hstate
    cases hstate
  | anchorLoss due =>
    obtain ⟨-, halign, -⟩ := rest rfl
    have htiming := due.1
    rw [halign] at htiming
    cases htiming
  | idleGap due | busyFinding due | assertKey due | preamble due | stamp due | releaseKey due =>
    obtain ⟨-, -, -, -, -, hlink, -⟩ := rest (by simp)
    have htx := due.1
    rw [hlink] at htx
    cases htx
  | syncMatch bits due | frameAbandoned length due =>
    obtain ⟨-, -, -, -, -, hlink, -⟩ := rest rfl
    have hrx := due.1
    rw [hlink] at hrx
    cases hrx
  | frameComplete body crc due =>
    obtain ⟨-, -, -, -, -, hlink, -⟩ := rest (by simp)
    have hrx := due.1
    rw [hlink] at hrx
    cases hrx
  | surveyBegin due | surveyEnd due =>
    obtain ⟨-, -, -, -, -, -, -, htable, -⟩ := rest (by simp)
    obtain ⟨e, he, -⟩ := due
    rw [Survey.adoptedEntry, htable] at he
    cases he

end Setup

/-! ### The line timer and the converter (R1 to R3, R14, R17, R20) -/

section Clock

variable {s t : State}

/-- Line time and the counts in their ranges; in RUNNING the converter runs and the next epoch end is an epoch's first tick. -/
abbrev Clocked (s : State) : Prop :=
  TimeLaw s ∧ (s.port.part = .running → s.acq.running = true ∧ ∃ e ∈ s.timer.nextEpochEnd, EpochPoint e)

/-- What the clock reads is left. -/
theorem Clocked.congr (h : Clocked s) (htimer : t.timer = s.timer) (hacq : t.acq.running = s.acq.running)
    (hpart : t.port.part = s.port.part) (hstart : t.port.startTime = s.port.startTime) : Clocked t := by
  rw [Clocked, TimeLaw, htimer, hacq, hpart, hstart]
  exact h

/-- Line time, the counts and the next epoch end are left, and so is the running of the converter. -/
theorem Clocked.kept (h : Clocked s) (htimer : s.timer.Kept t.timer) (hacq : t.acq.running = s.acq.running)
    (hpart : t.port.part = s.port.part) (hstart : t.port.startTime = s.port.startTime) : Clocked t := by
  obtain ⟨⟨hline, helapsed, hfrom, htally⟩, hrun⟩ := h
  refine ⟨⟨htimer.lineTime hline, htimer.elapsed ▸ helapsed, hstart ▸ hfrom, htimer.tally htally⟩, fun hrunning => ?_⟩
  obtain ⟨hconverter, hend⟩ := hrun (hpart ▸ hrunning)
  exact ⟨hacq.trans hconverter, htimer.epochEnd hend⟩

theorem takeNotice_timer_kept (s : State) (n : Notice) : s.timer.Kept (s.takeNotice n).timer :=
  .same (by simp) (by simp) (by simp) (by simp)

theorem clocked_keptByParts : KeptByParts Clocked where
  setTimer h _ hx := h.kept hx rfl rfl rfl
  setAlign h _ := h
  setAcq h _ hx := h.congr rfl hx rfl rfl
  moveStamp h _ := h
  drawn h := h
  refreshSwitch h := h
  latch h r := h.congr (by simp) (by simp) (by simp) (by simp)
  holdForSurvey h := h
  noteDrive h := h
  addRecord h _ := h.congr (by simp) (by simp) (by simp) (by simp)
  regulate h _ := h.congr (by simp) (by simp) (by simp) (by simp)
  protectionSample h _ _ := h.congr (by simp) (by simp) (by simp) (by simp)
  stuckSwitch h := h.congr (by simp) (by simp) (by simp) (by simp)
  countCrc h := h
  countMalformed h := h
  countOutOfSpan h := h
  removeAged h := h
  reduceOffsets h _ := h
  admitted h _ _ _ _ _ := h
  moveSurvey h _ _ _ := h
  takeNotice h n := h.kept (takeNotice_timer_kept _ n) (by simp) (by simp) (by simp)

theorem Timer.tick_fields (t : Timer) (running : Bool) :
    (t.tick running).lineTime = (if running then (t.lineTime + 1) % Config.day else t.lineTime) ∧
      (t.tick running).elapsed = ticksAfter t.elapsed 1 ∧ (t.tick running).nextEpochEnd = t.nextEpochEnd ∧
      (t.tick running).tally = t.tally := by
  cases running with
  | false => exact ⟨rfl, rfl, rfl, rfl⟩
  | true =>
    simp only [Timer.tick, Timer.fireEpochEnd, if_true]
    split_ifs <;> exact ⟨rfl, rfl, rfl, rfl⟩

/-- A line tick counts (R1, R2). -/
theorem Clocked.tick (h : Clocked s) {running : Bool} (hacq : t.acq = s.acq) (hport : t.port = s.port)
    (htimer : t.timer = s.timer.tick running) : Clocked t := by
  obtain ⟨⟨hline, helapsed, hfrom, htally⟩, hrun⟩ := h
  obtain ⟨htline, htelapsed, htend, httally⟩ := s.timer.tick_fields running
  rw [Clocked, TimeLaw, hacq, hport, htimer, htline, htelapsed, htend, httally]
  refine ⟨⟨?_, Nat.mod_lt _ (by decide), hfrom, htally⟩, hrun⟩
  split_ifs
  · exact Nat.mod_lt _ (by decide)
  · exact hline

theorem Clocked.change (h : Clocked s) (ht : Change s t) : Clocked t := by
  have hreset : TimeLaw State.reset := by decide
  have setup {x : State} (hpart : x.port.part = .setup) {p : Prop} (hrunning : x.port.part = .running) : p := by
    rw [hpart] at hrunning
    cases hrunning
  cases ht with
  | same => exact h
  | powerOn => exact ⟨hreset, setup rfl⟩
  | restarted => exact ⟨hreset, setup rfl⟩
  | setupTick x _ => exact h.tick (running := false) rfl rfl rfl
  | runningTick radio tpi _ => exact h.tick (running := true) rfl rfl rfl
  | epochEnd _ => exact clocked_keptByParts.epochEnd h
  | pointTaken _ =>
    refine h.kept ?_ (by simp [State.pointTaken]) (by simp [State.pointTaken]) (by simp [State.pointTaken])
    refine .same ?_ ?_ ?_ ?_ <;> simp [State.pointTaken]
  | onReferenceStart _ => exact clocked_keptByParts.openHere h
  | offStart _ => exact clocked_keptByParts.beginOff h
  | offEnd _ => exact clocked_keptByParts.endOff h
  | markEnd _ => exact h
  | slotEnd code _ => exact clocked_keptByParts.endSlot h code
  | tpiPulse _ => exact clocked_keptByParts.pulse h
  | frameComplete body crc _ => exact clocked_keptByParts.examine (s := s.setLink s.link.hunt) h _ _ _
  | surveyBegin _ | surveyEnd _ => exact clocked_keptByParts.settleSurvey h _
  | setLineTime time hpart htime =>
    obtain ⟨⟨-, helapsed, -, htally⟩, -⟩ := h
    exact ⟨⟨htime, helapsed, htime, htally⟩, setup hpart⟩
  | start _ _ =>
    obtain ⟨⟨-, helapsed, hfrom, -⟩, -⟩ := h
    refine ⟨?_, fun _ => ⟨rfl, _, rfl, multipleAfter_epochPoint _⟩⟩
    exact ⟨hfrom, helapsed, hfrom, (by decide : 0 < 65536)⟩
  | captureOpen id _ => exact h.congr rfl (Acq.setBank_running _ _ _) rfl rfl
  | captureClose id _ => exact h.congr rfl (by simp) rfl rfl
  | _ => exact h.congr (by simp) (by simp) (by simp) (by simp)

end Clock

/-! ### The alignment unit (R101 to R113) -/

section Alignment

/-- The ranges of the alignment unit's counts and of its pending correction. -/
structure Align.InRange (a : Align) : Prop where
  acquireCount : a.acquireCount ≤ 2
  lowerStreak : a.lowerStreak ≤ 2
  lostStreak : a.lostStreak ≤ 5
  pendingLow : -20 ≤ a.pendingCorr
  pendingHigh : a.pendingCorr ≤ 20
  lowRun : a.lowRun ≤ 1000
  highRun : a.highRun ≤ 2
  pulseStreak : a.pulseStreak ≤ 3

/-- Ranges kept, and no way back to STOPPED (R97). -/
structure Align.Goes (a b : Align) : Prop where
  inRange : a.InRange → b.InRange
  timing : a.timing ≠ .stopped → b.timing ≠ .stopped

theorem Align.Goes.refl (a : Align) : a.Goes a := ⟨id, id⟩

theorem Align.Goes.trans {a b c : Align} (hab : a.Goes b) (hbc : b.Goes c) : a.Goes c :=
  ⟨fun h => hbc.inRange (hab.inRange h), fun h => hbc.timing (hab.timing h)⟩

theorem Align.Goes.of_eq {a b : Align} (h : b = a) : a.Goes b := h ▸ .refl a

variable (a : Align)

theorem clamp_bounds {lo hi : Int} (h : lo ≤ hi) (x : Int) : lo ≤ clamp lo hi x ∧ clamp lo hi x ≤ hi := by
  unfold clamp
  split_ifs <;> omega

theorem satSucc_le {top n : Nat} (h : n ≤ top) : satSucc top n ≤ top := by
  unfold satSucc
  split_ifs <;> omega

theorem Align.goes_pendingCorr {c : Int} (hlow : -20 ≤ c) (hhigh : c ≤ 20) : a.Goes { a with pendingCorr := c } :=
  ⟨fun ⟨h1, h2, h3, _, _, h6, h7, h8⟩ => ⟨h1, h2, h3, hlow, hhigh, h6, h7, h8⟩, id⟩

/-- Every other state of the timing is entered with the streaks at 0. -/
theorem Align.goes_timing {timing : TimingState} (h : timing ≠ .stopped) (root : Nat) :
    a.Goes { a with timing := timing, root := root, lowerStreak := 0, lostStreak := 0 } :=
  ⟨fun ⟨h1, _, _, h4, h5, h6, h7, h8⟩ => ⟨h1, Nat.zero_le _, Nat.zero_le _, h4, h5, h6, h7, h8⟩, fun _ => h⟩

theorem Align.goes_tpiTick (tpi : Bool) : a.Goes (a.tpiTick tpi) where
  inRange := fun ⟨h1, h2, h3, h4, h5, h6, h7, h8⟩ => by
    refine ⟨h1, h2, h3, h4, h5, ?_, ?_, h8⟩ <;> dsimp only [Align.tpiTick]
    · split_ifs
      · exact Nat.zero_le _
      · exact satSucc_le h6
    · split_ifs
      · exact satSucc_le h7
      · exact h7
      · exact Nat.zero_le _
  timing := id

theorem Align.goes_takePulse (now : Nat) : a.Goes (a.takePulse now) where
  inRange := fun ⟨h1, h2, h3, h4, h5, h6, _, h8⟩ => by
    refine ⟨h1, h2, h3, h4, h5, h6, Nat.zero_le _, ?_⟩
    dsimp only [Align.takePulse]
    split_ifs
    · exact satSucc_le h8
    · decide
  timing := id

/-- Adoption and merge set the streaks, the acquire count and the pending correction to 0: only the TPI counts are kept (R100, R107). -/
theorem Align.follow_inRange {a : Align} (hlow : a.lowRun ≤ 1000) (hhigh : a.highRun ≤ 2) (hstreak : a.pulseStreak ≤ 3) (root : Nat) :
    (a.follow root).InRange :=
  ⟨Nat.zero_le _, Nat.zero_le _, Nat.zero_le _, (by decide : (-20 : Int) ≤ 0), (by decide : (0 : Int) ≤ 20), hlow, hhigh, hstreak⟩

theorem Align.goes_follow (root : Nat) : a.Goes (a.follow root) :=
  ⟨fun ⟨_, _, _, _, _, h6, h7, h8⟩ => follow_inRange h6 h7 h8 root, fun _ => nofun⟩

variable (s : State)

theorem handCorrection_goes {c : Int} (hlow : -20 ≤ c) (hhigh : c ≤ 20) : s.align.Goes (s.handCorrection c).align := by
  unfold State.handCorrection
  split_ifs
  · exact .refl _
  · exact s.align.goes_pendingCorr hlow hhigh
  · have happlied : ((s.setAlign { s.align with pendingCorr := 0 }).applyCorrection c).align = { s.align with pendingCorr := 0 } := by simp
    rw [happlied]
    exact s.align.goes_pendingCorr (by decide) (by decide)

theorem chosen_none {ps : Params} {table : List Peer} (h : chosen ps table = none) : table = [] := by
  cases table with
  | nil => rfl
  | cons p t =>
    rw [chosen] at h
    split at h
    · cases h
    · split_ifs at h

theorem averagingCorrection_bounds : -20 ≤ s.averagingCorrection ∧ s.averagingCorrection ≤ 20 := by
  have hwide := clamp_bounds (lo := -20) (hi := 20) (by decide) (halfMean s.included + s.align.pendingCorr)
  have hnarrow := clamp_bounds (lo := -10) (hi := 10) (by decide) (halfMean s.included + s.align.pendingCorr)
  unfold State.averagingCorrection
  dsimp only
  split_ifs
  · exact ⟨(by decide : (-20 : Int) ≤ -10).trans hnarrow.1, hnarrow.2.trans (by decide)⟩
  · exact hwide

/-- A merge has a peer to choose where a candidate was found (R106, R107). -/
theorem merge_align (hsome : s.candidates ≠ []) : ∃ root, s.merge.align = s.align.follow root := by
  unfold State.merge
  cases hchosen : chosen s.params s.candidates with
  | none => exact absurd (chosen_none hchosen) hsome
  | some p => exact ⟨p.root, by simp⟩

theorem trackingEpoch_goes : s.align.Goes s.trackingEpoch.align := by
  unfold State.trackingEpoch
  dsimp only
  split_ifs with hmerge hlost
  · have hsome : s.candidates ≠ [] := fun hnone => by simp [State.nextLowerStreak, hnone] at hmerge
    obtain ⟨root, hroot⟩ :=
      merge_align (s.setAlign { s.align with lowerStreak := s.nextLowerStreak, lostStreak := s.nextLostStreak }) hsome
    rw [hroot]
    exact ⟨fun ⟨_, _, _, _, _, h6, h7, h8⟩ => Align.follow_inRange h6 h7 h8 root, fun _ => nofun⟩
  · refine ⟨fun ⟨_, _, _, _, _, h6, h7, h8⟩ => ?_, fun _ => nofun⟩
    exact ⟨Nat.zero_le _, Nat.zero_le _, Nat.zero_le _, (by decide : (-20 : Int) ≤ 0), (by decide : (0 : Int) ≤ 20), h6, h7, h8⟩
  · have hcounted : s.align.Goes { s.align with lowerStreak := s.nextLowerStreak, lostStreak := s.nextLostStreak } :=
      ⟨fun ⟨h1, _, _, h4, h5, h6, h7, h8⟩ => ⟨h1, by dsimp only; omega, by dsimp only; omega, h4, h5, h6, h7, h8⟩, id⟩
    obtain ⟨hlow, hhigh⟩ := averagingCorrection_bounds (s.setAlign _)
    exact hcounted.trans (handCorrection_goes (s.setAlign _) hlow hhigh)

theorem acquireEpoch_goes : s.align.Goes s.acquireEpoch.align := by
  unfold State.acquireEpoch
  split_ifs with hthird
  · exact ⟨fun ⟨_, _, _, h4, h5, h6, h7, h8⟩ => ⟨Nat.zero_le _, Nat.zero_le _, Nat.zero_le _, h4, h5, h6, h7, h8⟩, fun _ => nofun⟩
  · rw [State.setAlign_align]
    exact ⟨fun ⟨_, h2, h3, h4, h5, h6, h7, h8⟩ => ⟨by dsimp only; omega, h2, h3, h4, h5, h6, h7, h8⟩, id⟩

theorem alignEpoch_goes : s.align.Goes s.alignEpoch.align := by
  unfold State.alignEpoch
  split
  · exact .refl _
  · exact .refl _
  · exact acquireEpoch_goes s
  · exact trackingEpoch_goes s
  · exact trackingEpoch_goes s

theorem enterAnchor_goes : s.align.Goes s.enterAnchor.align := by
  have hdiscarded := s.align.goes_pendingCorr (c := 0) (by decide) (by decide)
  unfold State.enterAnchor
  dsimp only
  split_ifs
  · rw [State.setAlign_align]
    simpa using hdiscarded.trans (Align.goes_timing _ (timing := .anchored) nofun 0)
  · obtain ⟨hlow, hhigh⟩ := clamp_bounds (lo := -20) (hi := 20) (by decide) (-phase s.timer.lineTime)
    rw [State.setAlign_align]
    exact (hdiscarded.trans (handCorrection_goes (s.setAlign _) hlow hhigh)).trans (Align.goes_timing _ (timing := .anchored) nofun 0)

theorem pulse_goes : s.align.Goes s.pulse.align := by
  have htaken := s.align.goes_takePulse s.timer.elapsed
  have hanchor := htaken.trans (enterAnchor_goes (s.setAlign (s.align.takePulse s.timer.elapsed)))
  unfold State.pulse
  dsimp only
  split
  · exact htaken
  · exact htaken
  · split_ifs
    · exact hanchor
    · exact htaken
  · split_ifs
    · exact hanchor
    · exact htaken
  · unfold State.anchoredPulse
    split_ifs
    · obtain ⟨hlow, hhigh⟩ := clamp_bounds (lo := -20) (hi := 20) (by decide)
        (-phase s.timer.lineTime + (s.align.takePulse s.timer.elapsed).pendingCorr)
      exact htaken.trans (handCorrection_goes (s.setAlign _) hlow hhigh)
    · exact htaken

theorem examine_goes (stamp : Nat) (body : List Byte) (crc : Word16) : s.align.Goes (s.examine stamp body crc).align := by
  unfold State.examine
  split_ifs
  · exact .refl _
  · split
    · exact .refl _
    · unfold State.takeStatus
      split
      · exact .of_eq (by simp)
      · exact .refl _
      · exact .refl _
      next table entry _ =>
        unfold State.entryTaken
        split_ifs
        · have hstepped : ((s.setPeers table).handStep entry.offset).align = s.align := by simp
          rw [State.setAlign_align, hstepped]
          exact s.align.goes_follow _
        · exact .refl _
    · exact .of_eq (by simp)

variable {s} {t : State}

/-- The alignment unit in its ranges, and in RUNNING not STOPPED (R97, R101 to R113). -/
abbrev Aligned (s : State) : Prop := s.align.InRange ∧ (s.port.part = .running → s.align.timing ≠ .stopped)

theorem Aligned.goes (h : Aligned s) (halign : s.align.Goes t.align) (hpart : t.port.part = s.port.part) : Aligned t :=
  ⟨halign.inRange h.1, fun hrunning => halign.timing (h.2 (hpart ▸ hrunning))⟩

theorem Align.inRange_of_counts_zero {a : Align} (h : a = { Align.reset with timing := a.timing }) : a.InRange := by
  rw [h]
  constructor <;> simp [Align.reset]

theorem Aligned.change (h : Aligned s) (ht : Change s t) : Aligned t := by
  cases ht with
  | same => exact h
  | powerOn => exact ⟨Align.inRange_of_counts_zero rfl, nofun⟩
  | restarted => exact ⟨Align.inRange_of_counts_zero rfl, nofun⟩
  | start _ _ => exact ⟨Align.inRange_of_counts_zero rfl, fun _ => nofun⟩
  | setupTick x _ => exact h
  | runningTick radio tpi _ => exact h.goes (s.align.goes_tpiTick tpi) rfl
  | epochEnd _ =>
    have hsame : s.countEpoch.removeAged.align = s.align := by simp
    exact h.goes (hsame ▸ alignEpoch_goes _) (by simp)
  | pointTaken _ => exact h.goes (.of_eq (by simp [State.pointTaken])) (by simp [State.pointTaken])
  | tpiArm _ => exact h.goes ⟨fun ⟨h1, h2, h3, h4, h5, h6, h7, h8⟩ => ⟨h1, h2, h3, h4, h5, h6, h7, h8⟩, id⟩ rfl
  | tpiPulse _ => exact h.goes (pulse_goes s) (by simp)
  | anchorLoss _ => exact h.goes (s.align.goes_timing (timing := .tracking) nofun 0) rfl
  | frameComplete body crc _ => exact h.goes (examine_goes (s.setLink s.link.hunt) _ _ _) (by simp)
  | _ => exact h.goes (.of_eq (by simp)) (by simp)

end Alignment

/-! ### The setpoint (R121) and the parameters (R175) -/

section SetpointAndParams

variable {s t : State}

theorem setpointLaw_congr (h : SetpointLaw s) (hset : t.reg.iSet = s.reg.iSet) (hpart : t.port.part = s.port.part)
    (hparams : t.port.params = s.port.params) : SetpointLaw t := by
  rw [SetpointLaw, hset, hpart, State.params, hparams]
  exact h

/-- A valid reading moves the setpoint within its limits (R132). -/
theorem setpointLaw_afterValid (h : SetpointLaw s) (depth : Int) : SetpointLaw (s.setReg (s.regAfterValid depth)) := by
  intro hrunning
  obtain ⟨hfloor, hceil⟩ := h hrunning
  change s.params.iFloor ≤ s.setpointAfter depth ∧ s.setpointAfter depth ≤ s.params.iCeil
  unfold State.setpointAfter
  split_ifs
  · exact ⟨hfloor, hceil⟩
  · exact clamp_bounds (hfloor.trans hceil) _

theorem setpointLaw_regulate (h : SetpointLaw s) (r : Reduction) : SetpointLaw (s.regulate r) := by
  have hadd {x : State} (hx : SetpointLaw x) (c : CycleRecord) : SetpointLaw (x.addRecord c) := setpointLaw_congr hx (by simp) (by simp) (by simp)
  have hcode {x : State} (hx : SetpointLaw x) : SetpointLaw x.handCode := setpointLaw_congr hx (by simp) (by simp) (by simp)
  unfold State.regulate
  dsimp only
  refine hadd (hcode ?_) _
  split
  · exact setpointLaw_congr h (by simp [Reg.held]) (by simp) (by simp)
  · exact setpointLaw_afterValid h _

theorem setpoint_keptByParts : KeptByParts SetpointLaw where
  setTimer h _ _ := h
  setAlign h _ := h
  setAcq h _ _ := h
  moveStamp h _ := h
  drawn h := h
  refreshSwitch h := h
  latch h _ := setpointLaw_congr h (by simp) (by simp) (by simp)
  holdForSurvey h := h
  noteDrive h := h
  addRecord h _ := setpointLaw_congr h (by simp) (by simp) (by simp)
  regulate h r := setpointLaw_regulate h r
  protectionSample h _ _ := setpointLaw_congr h (by simp) (by simp) (by simp)
  stuckSwitch h := setpointLaw_congr h (by simp) (by simp) (by simp)
  countCrc h := h
  countMalformed h := h
  countOutOfSpan h := h
  removeAged h := h
  reduceOffsets h _ := h
  admitted h _ _ _ _ _ := h
  moveSurvey h _ _ _ := h
  takeNotice h n := setpointLaw_congr h (takeNotice_reg _ n).2 (by simp) (by simp)

/-- C3 holds where START finds no conflict (R179). -/
theorem iInit_bounds {ps : Params} (h : ps.conflict = none) : ps.iFloor ≤ ps.iInit ∧ ps.iInit ≤ ps.iCeil := by
  have hthree : ¬ (!ps.holds 3) = true := List.find?_eq_none.mp h 3 (by decide)
  have hholds : ps.iFloor ≤ ps.iInit ∧ ps.iInit ≤ ps.iCeil ∧ ps.iCeil ≤ ps.value 21 := by simpa [Params.holds] using hthree
  exact ⟨hholds.1, hholds.2.1⟩

theorem setpointLaw_change (h : SetpointLaw s) (ht : Change s t) : SetpointLaw t := by
  have setup {x : State} (hpart : x.port.part = .setup) : SetpointLaw x := fun hrunning => by
    rw [hpart] at hrunning
    cases hrunning
  cases ht with
  | same => exact h
  | powerOn => exact setup rfl
  | restarted => exact setup rfl
  | loadParameter n v hpart _ => exact setup hpart
  | start _ hconflict => exact fun _ => iInit_bounds hconflict
  | setupTick x _ => exact h
  | runningTick radio tpi _ => exact h
  | epochEnd _ => exact setpoint_keptByParts.epochEnd h
  | pointTaken _ => exact setpointLaw_congr h (by simp [State.pointTaken]) (by simp [State.pointTaken]) (by simp [State.pointTaken])
  | onReferenceStart _ => exact setpoint_keptByParts.openHere h
  | slotEnd code _ => exact setpoint_keptByParts.endSlot h code
  | tpiPulse _ => exact setpoint_keptByParts.pulse h
  | frameComplete body crc _ => exact setpoint_keptByParts.examine (s := s.setLink s.link.hunt) h _ _ _
  | surveyBegin _ | surveyEnd _ => exact setpoint_keptByParts.settleSurvey h _
  | _ => exact setpointLaw_congr h (by simp) (by simp) (by simp)

/-- No row but LOAD PARAMETER and power-on reset changes a parameter (R174, R175). -/
theorem params_change (ht : Change s t) :
    t.params = s.params ∨ t = s.powerOn ∨
      ∃ n v, s.port.part = .setup ∧ paramInRange n v = true ∧ t = s.setPort { s.port with params := s.params.store n v } := by
  cases ht with
  | powerOn => exact .inr (.inl rfl)
  | loadParameter n v hpart hv => exact .inr (.inr ⟨n, v, hpart, hv, rfl⟩)
  | same | restarted | setupTick | runningTick | start => exact .inl rfl
  | pointTaken _ => exact .inl (by simp [State.params, State.pointTaken])
  | _ => exact .inl (by simp [State.params])

theorem Params.store_getElem (ps : Params) (n : Nat) (v : Int) (k : Fin 45) :
    (ps.store n v)[k] = if n = k + 1 then v else ps[k] := by
  cases n with
  | zero => simp [Params.store]
  | succ j => simp [Params.store, Vector.getElem_setIfInBounds]

theorem paramsLaw_change (h : ParamsLaw s) (ht : Change s t) : ParamsLaw t := by
  intro k
  obtain hsame | rfl | ⟨n, v, -, hv, rfl⟩ := params_change ht
  · rw [hsame]
    exact h k
  · exact .inr rfl
  · rw [State.params, State.setPort_port, Params.store_getElem]
    split_ifs with hn
    · exact .inl (hn ▸ hv)
    · exact h k

end SetpointAndParams

/-- Settles O59: every `Change` keeps each of the six laws. -/
theorem stepKeepsSetupRunningAndTimeLaws : Obligations.StepKeepsSetupRunningAndTimeLaws := by
  have hreads : ReadsBlocks fun s => SetupLaw s ∧ Clocked s ∧ Aligned s ∧ SetpointLaw s ∧ ParamsLaw s := by
    rintro s _ ⟨_, _, _, _, _, _, _, _, rfl⟩ h
    exact h
  have hchange (x y : State) (h : SetupLaw x ∧ Clocked x ∧ Aligned x ∧ SetpointLaw x ∧ ParamsLaw x) (hxy : Change x y) :
      SetupLaw y ∧ Clocked y ∧ Aligned y ∧ SetpointLaw y ∧ ParamsLaw y := by
    obtain ⟨hsetup, hclock, halign, hset, hparams⟩ := h
    exact ⟨setupLaw_change hsetup hxy, hclock.change hxy, halign.change hxy, setpointLaw_change hset hxy, paramsLaw_change hparams hxy⟩
  intro s t hsetup hrun htime ⟨h1, h2, h3, h4, h5, h6, h7, h8⟩ hset hparams hstep
  obtain ⟨hsetup, ⟨htime, hclock⟩, ⟨halign, htiming⟩, hset, hparams⟩ := step_leads hreads hreads hchange
    ⟨hsetup, ⟨htime, fun hpart => (hrun hpart).2⟩, ⟨⟨h1, h2, h3, h4, h5, h6, h7, h8⟩, fun hpart => (hrun hpart).1⟩, hset, hparams⟩ hstep
  exact ⟨hsetup, fun hpart => ⟨htiming hpart, hclock hpart⟩, htime,
    ⟨halign.acquireCount, halign.lowerStreak, halign.lostStreak, halign.pendingLow, halign.pendingHigh, halign.lowRun, halign.highRun,
      halign.pulseStreak⟩, hset, hparams⟩

end Sys2Proof.Machine

/-! # Every command answers; the record is fixed while running (O1, O2, O60)

What a row leaves of the queue of commands, the input lines, the record, the part state and the elapsed ticks, once for every row.
-/

namespace Sys2Proof.Machine

open Sys2Proof.Safety

/-- Settles O1: `step` by the queue. -/
theorem stepRunsFrontCommand : Obligations.StepRunsFrontCommand := by
  intro c rest s
  constructor
  · intro h
    simp only [step, h]
    rfl
  · intro h
    simp only [step, h]

/-- A row leaves the queue of commands, the input lines, the record and the elapsed ticks. -/
structure Undisturbed (s t : State) : Prop where
  pending : t.pending = s.pending
  lines : t.lines = s.lines
  params : t.port.params = s.port.params
  planTag : t.port.planTag = s.port.planTag
  part : t.port.part = s.port.part
  startTime : t.port.startTime = s.port.startTime
  elapsed : t.timer.elapsed = s.timer.elapsed

theorem Undisturbed.refl (s : State) : Undisturbed s s := ⟨rfl, rfl, rfl, rfl, rfl, rfl, rfl⟩

section PortCommands

variable {s : State}

/-- What a port command leaves: the queue of commands and the input lines, and in RUNNING the record, but for a RESTART the rest too. -/
structure CommandKeeps (c : PortCommand) (s t : State) : Prop where
  pending : t.pending = s.pending
  lines : t.lines = s.lines
  params : s.running → t.port.params = s.port.params
  rest : s.running → c ≠ .restart → Undisturbed s t

theorem Undisturbed.command {c : PortCommand} {t : State} (h : Undisturbed s t) : CommandKeeps c s t :=
  ⟨h.pending, h.lines, fun _ => h.params, fun _ _ => h⟩

/-- A command of SETUP alone is not performed in RUNNING. -/
theorem CommandKeeps.of_setup {c : PortCommand} {t : State} (hpart : s.port.part = .setup) (hpending : t.pending = s.pending)
    (hlines : t.lines = s.lines) : CommandKeeps c s t := by
  have absent {p : Prop} (hrunning : s.running) : p := absurd (hpart.symm.trans hrunning) nofun
  exact ⟨hpending, hlines, absent, fun hrunning => absent hrunning⟩

theorem readRecords_undisturbed (n : Nat) : Undisturbed s (s.readRecords n).state := by
  unfold State.readRecords
  split_ifs
  · exact .refl s
  · exact ⟨rfl, rfl, rfl, rfl, rfl, rfl, rfl⟩
  · exact .refl s

theorem captureOpen_undisturbed : Undisturbed s s.captureOpen.state := by
  unfold State.captureOpen
  split_ifs
  · exact .refl s
  · split
    · exact .refl s
    · exact ⟨rfl, rfl, rfl, rfl, rfl, rfl, rfl⟩

theorem captureClose_undisturbed : Undisturbed s s.captureClose.state := by
  unfold State.captureClose
  split
  · exact .refl s
  · exact ⟨rfl, rfl, rfl, rfl, rfl, rfl, rfl⟩

theorem startSurvey_undisturbed (a : SurveyArgs) : Undisturbed s (s.startSurvey a).1 := by
  unfold State.startSurvey
  split_ifs
  · exact .refl s
  · exact .refl s
  · split
    · exact .refl s
    · split_ifs
      · exact ⟨rfl, rfl, rfl, rfl, rfl, rfl, rfl⟩
      · exact .refl s

theorem haltSurvey_undisturbed : Undisturbed s s.haltSurvey.1 := by
  unfold State.haltSurvey
  split
  · exact .refl s
  · split_ifs
    · exact .refl s
    · exact .refl s
    · exact ⟨rfl, rfl, rfl, rfl, rfl, rfl, rfl⟩

theorem outputOff_undisturbed : Undisturbed s s.outputOff.state := by
  unfold State.outputOff
  split <;> exact ⟨rfl, rfl, rfl, rfl, rfl, rfl, rfl⟩

theorem outputOn_undisturbed : Undisturbed s s.outputOn.state := by
  unfold State.outputOn
  split <;> exact ⟨rfl, rfl, rfl, rfl, rfl, rfl, rfl⟩

theorem clearFault_undisturbed : Undisturbed s s.clearFault.state := by
  unfold State.clearFault
  split <;> exact ⟨rfl, rfl, rfl, rfl, rfl, rfl, rfl⟩

theorem perform_keeps {c : PortCommand} (hc : c.allowedIn s.port.part = true) : CommandKeeps c s (s.perform c).state := by
  cases c with
  | loadParameter n v =>
    refine .of_setup (decide_eq_true_iff.mp hc) ?_ ?_ <;> simp only [State.perform, State.loadParameter] <;> split_ifs <;> rfl
  | setLineTime t =>
    refine .of_setup (decide_eq_true_iff.mp hc) ?_ ?_ <;> simp only [State.perform, State.setStartTime] <;> split_ifs <;> rfl
  | start =>
    refine .of_setup (decide_eq_true_iff.mp hc) ?_ ?_ <;> simp only [State.perform, State.startPart] <;> split <;> rfl
  | readParameter n =>
    refine Undisturbed.command ?_
    simp only [State.perform, State.readParameter]
    split_ifs <;> exact .refl s
  | partStatus | peerList | surveyList => exact (Undisturbed.refl s).command
  | readAttention => exact Undisturbed.command ⟨rfl, rfl, rfl, rfl, rfl, rfl, rfl⟩
  | readRecords n => exact (readRecords_undisturbed n).command
  | captureOpen => exact captureOpen_undisturbed.command
  | captureFetch first count =>
    refine Undisturbed.command ?_
    rw [State.perform, captureFetch_state]
    exact .refl s
  | captureClose => exact captureClose_undisturbed.command
  | surveyStart a => exact (startSurvey_undisturbed a).command
  | surveyHalt => exact haltSurvey_undisturbed.command
  | outputOff => exact outputOff_undisturbed.command
  | outputOn => exact outputOn_undisturbed.command
  | clearFault => exact clearFault_undisturbed.command
  | restart => exact ⟨rfl, rfl, fun _ => rfl, fun _ hne => absurd rfl hne⟩

/-- A taken command, with its reply begun. -/
theorem takeCommand_keeps (s : State) (c : PortCommand) : CommandKeeps c s (s.takeCommand c) := by
  have hreply {x : State} (h : CommandKeeps c s x) (code : ReplyCode) (body : List Byte) :
      CommandKeeps c s (x.reply c.code code body) :=
    ⟨h.pending, h.lines, h.params, fun hrunning hne =>
      have hrest := h.rest hrunning hne
      ⟨hrest.pending, hrest.lines, hrest.params, hrest.planTag, hrest.part, hrest.startTime, hrest.elapsed⟩⟩
  unfold State.takeCommand
  refine hreply ?_ _ _
  split_ifs with hc
  · exact perform_keeps hc
  · exact (Undisturbed.refl s).command

/-- What a port byte leaves: the queue of commands, the input lines and in RUNNING the record. -/
abbrev ByteKeeps (s t : State) : Prop :=
  t.pending = s.pending ∧ t.lines = s.lines ∧ (s.running → t.port.params = s.port.params)

theorem frameEnds_keeps (s : State) (l : Nat) (bytes : List Byte) : ByteKeeps s (s.frameEnds l bytes) := by
  have hcommand (c : PortCommand) : ByteKeeps s (s.takeCommand c) :=
    have h := takeCommand_keeps s c
    ⟨h.pending, h.lines, h.params⟩
  unfold State.frameEnds State.takeFrame
  split
  · exact ⟨rfl, rfl, fun _ => rfl⟩
  · split_ifs
    · split
      · exact ⟨rfl, rfl, fun _ => rfl⟩
      · exact ⟨rfl, rfl, fun _ => rfl⟩
      · exact hcommand _
    · exact ⟨rfl, rfl, fun _ => rfl⟩

theorem receiveByte_keeps (s : State) (b : Byte) : ByteKeeps s (s.receiveByte b) := by
  cases h : s.port.length with
  | none =>
    rw [receiveByte_of_no_length h]
    split_ifs <;> exact ⟨rfl, rfl, fun _ => rfl⟩
  | some l =>
    rw [receiveByte_of_length h]
    split_ifs
    · exact frameEnds_keeps (s.byteJoined b) _ _
    · exact ⟨rfl, rfl, fun _ => rfl⟩

theorem execPortByte_keeps (b : Byte) (s : State) : ∃ t, execPortByte b s = .next t ∧ ByteKeeps s t := by
  unfold execPortByte
  split
  · split_ifs
    · exact ⟨_, rfl, rfl, rfl, fun _ => rfl⟩
    · exact ⟨_, rfl, rfl, rfl, fun _ => rfl⟩
  · exact ⟨_, rfl, receiveByte_keeps s b⟩
  · exact ⟨_, rfl, rfl, rfl, fun _ => rfl⟩

end PortCommands

/-! ### Every row -/

section EveryRow

variable {s : State}

/-- What the row of a command leaves. -/
structure RowKeeps (c : Instr) (s t : State) : Prop where
  pending : t.pending = s.pending
  lines : (∀ radio tpi, c ≠ .lineTick radio tpi) → t.lines = s.lines
  params : s.running → c ≠ .powerOnReset → t.port.params = s.port.params
  record : s.running → c ≠ .powerOnReset → c ≠ .restart → (∀ b, c ≠ .portByte b) →
    t.port.planTag = s.port.planTag ∧ t.port.part = s.port.part ∧ t.port.startTime = s.port.startTime ∧
      ((∀ radio tpi, c ≠ .lineTick radio tpi) → t.timer.elapsed = s.timer.elapsed)

theorem Undisturbed.row {c : Instr} {t : State} (h : Undisturbed s t) : RowKeeps c s t :=
  ⟨h.pending, fun _ => h.lines, fun _ _ => h.params, fun _ _ _ _ => ⟨h.planTag, h.part, h.startTime, fun _ => h.elapsed⟩⟩

/-- An event row answers its effect or the state as it was. -/
theorem event_keeps {c : Instr} {due : Prop} [Decidable due] {u : State} (hu : Undisturbed s u) :
    ∃ t, event due s u = .next t ∧ RowKeeps c s t := by
  by_cases hdue : due
  · exact ⟨u, event_of_due hdue s u, hu.row⟩
  · exact ⟨s, event_of_not_due hdue s u, (Undisturbed.refl s).row⟩

/-- The row of a port command other than RESTART. -/
theorem portRow_keeps {c : Instr} (p : PortCommand) (hp : p ≠ .restart) : ∃ t, portRow p s = .next t ∧ RowKeeps c s t := by
  by_cases hport : s.port.state ≠ .replying
  · have h := takeCommand_keeps s p
    refine ⟨_, portRow_next p s hport, h.pending, fun _ => h.lines, fun hrunning _ => h.params hrunning, fun hrunning _ _ _ => ?_⟩
    have hrest := h.rest hrunning hp
    exact ⟨hrest.planTag, hrest.part, hrest.startTime, fun _ => hrest.elapsed⟩
  · exact ⟨s, event_of_not_due hport s _, (Undisturbed.refl s).row⟩

theorem busyFinding_undisturbed (s : State) : Undisturbed s s.busyFinding := by
  constructor <;> simp

theorem epochEnd_undisturbed (s : State) : Undisturbed s s.countEpoch.removeAged.alignEpoch := by
  constructor <;> simp

theorem execLineTick_keeps (radio : RadioLines) (tpi : Bool) :
    ∃ t, execLineTick radio tpi s = .next t ∧ RowKeeps (.lineTick radio tpi) s t := by
  have notTick {p : Prop} (h : ∀ r x, Instr.lineTick radio tpi ≠ .lineTick r x) : p := absurd rfl (h radio tpi)
  unfold execLineTick
  dsimp only
  split_ifs
  · exact ⟨_, rfl, rfl, notTick, fun _ _ => rfl, fun _ _ _ _ => ⟨rfl, rfl, rfl, notTick⟩⟩
  · exact ⟨_, rfl, rfl, notTick, fun _ _ => rfl, fun _ _ _ _ => ⟨rfl, rfl, rfl, notTick⟩⟩

theorem exec_keeps (c : Instr) (s : State) : ∃ t, exec c s = .next t ∧ RowKeeps c s t := by
  cases c with
  | powerOnReset => exact ⟨_, rfl, rfl, fun _ => rfl, fun _ h => absurd rfl h, fun _ h => absurd rfl h⟩
  | lineTick radio tpi => exact execLineTick_keeps radio tpi
  | portByte b =>
    obtain ⟨t, ht, hpending, hlines, hparams⟩ := execPortByte_keeps b s
    exact ⟨t, ht, hpending, fun _ => hlines, fun h _ => hparams h, fun _ _ _ h => absurd rfl (h b)⟩
  | restart =>
    have h := takeCommand_keeps s .restart
    by_cases hport : s.port.state ≠ .replying
    · exact ⟨_, portRow_next _ s hport, h.pending, fun _ => h.lines, fun hrunning _ => h.params hrunning, fun _ _ hne => absurd rfl hne⟩
    · exact ⟨s, event_of_not_due hport s _, (Undisturbed.refl s).row⟩
  | epochEnd => exact event_keeps (epochEnd_undisturbed s)
  | transmissionPoint => refine event_keeps ?_; constructor <;> simp
  | onReferenceStart => refine event_keeps ?_; constructor <;> simp
  | offStart => refine event_keeps ?_; constructor <;> simp
  | offEnd => refine event_keeps ?_; constructor <;> simp
  | conversionSlot code => refine event_keeps ?_; constructor <;> simp
  | tpiPulse => refine event_keeps ?_; constructor <;> simp
  | frameComplete body crc => refine event_keeps ?_; constructor <;> simp
  | surveyBegin => refine event_keeps ?_; constructor <;> simp
  | surveyEnd => refine event_keeps ?_; constructor <;> simp
  | backoffEnd =>
    refine event_keeps ?_
    split_ifs
    · exact busyFinding_undisturbed s
    · exact ⟨rfl, rfl, rfl, rfl, rfl, rfl, rfl⟩
  | markPulseEnd | rampTick | retryExpiry | cleanRun | tpiArm | anchorLoss | idleGap | preamble | stamp | keyRelease | portGapTimeout
  | replySent | unknownCommand | syncPatternMatch | frameAbandoned => exact event_keeps ⟨rfl, rfl, rfl, rfl, rfl, rfl, rfl⟩
  | loadParameter n v => exact portRow_keeps (.loadParameter n v) nofun
  | readParameter n => exact portRow_keeps (.readParameter n) nofun
  | setLineTime t => exact portRow_keeps (.setLineTime t) nofun
  | start => exact portRow_keeps .start nofun
  | partStatus => exact portRow_keeps .partStatus nofun
  | readAttention => exact portRow_keeps .readAttention nofun
  | readRecords n => exact portRow_keeps (.readRecords n) nofun
  | peerList => exact portRow_keeps .peerList nofun
  | surveyList => exact portRow_keeps .surveyList nofun
  | captureOpen => exact portRow_keeps .captureOpen nofun
  | captureFetch first count => exact portRow_keeps (.captureFetch first count) nofun
  | captureClose => exact portRow_keeps .captureClose nofun
  | surveyStart a => exact portRow_keeps (.surveyStart a) nofun
  | surveyHalt => exact portRow_keeps .surveyHalt nofun
  | outputOff => exact portRow_keeps .outputOff nofun
  | outputOn => exact portRow_keeps .outputOn nofun
  | clearFault => exact portRow_keeps .clearFault nofun

end EveryRow

/-- Settles O2: what every row leaves of the queue and the input lines. -/
theorem everyCommandAnswersNext : Obligations.EveryCommandAnswersNext := by
  intro c s
  obtain ⟨t, ht, hkeeps⟩ := exec_keeps c s
  exact ⟨t, ht, hkeeps.pending, hkeeps.lines⟩

/-- Settles O60: what every row leaves of the record in RUNNING. -/
theorem recordIsFixedWhileRunning : Obligations.RecordIsFixedWhileRunning := by
  intro c s t hpart hreset ht
  obtain ⟨u, hu, hkeeps⟩ := exec_keeps c s
  obtain rfl : u = t := Host.Outcome.next.inj (hu.symm.trans ht)
  refine ⟨hkeeps.params hpart hreset, fun hrestart hbyte => ?_⟩
  obtain ⟨htag, hsame, hstart, helapsed⟩ := hkeeps.record hpart hreset hrestart hbyte
  exact ⟨htag, hsame.trans hpart, hstart, helapsed⟩

end Sys2Proof.Machine

/-! # Resets and the line tick (O3 to O5, O53) -/

namespace Sys2Proof.Machine

open Sys2Proof.Safety

/-- Settles O3: the reset values, block by block. -/
theorem powerOnResetValues : Obligations.PowerOnResetValues := by
  intro s
  refine ⟨s.powerOn, rfl, ⟨rfl, rfl, rfl, rfl, rfl, rfl, rfl, rfl, fun r => ?_, rfl⟩, ⟨rfl, rfl, rfl, rfl, rfl, rfl, rfl, rfl, rfl, rfl⟩,
    ⟨rfl, rfl, rfl, rfl, rfl, rfl, rfl, rfl, rfl, rfl, rfl⟩, ⟨rfl, rfl, rfl, rfl, rfl, rfl, rfl, rfl, rfl, rfl⟩,
    ⟨rfl, rfl, rfl, rfl, rfl, rfl, rfl, rfl, rfl, rfl, rfl, rfl, rfl⟩, ⟨rfl, rfl, rfl, rfl, rfl, rfl, rfl, rfl⟩,
    ⟨rfl, rfl, rfl, rfl, rfl, rfl, rfl, rfl, rfl, rfl, rfl, rfl, rfl, rfl⟩, rfl, rfl, rfl, rfl, rfl, rfl, rfl, rfl⟩
  cases r <;> rfl

theorem exec_restart {s : State} (h : s.port.state ≠ .replying) : exec .restart s = .next (s.takeCommand .restart) :=
  portRow_next .restart s h

/-- Settles O4: what a taken RESTART leaves, written out, and as power-on reset with two values kept. -/
theorem restartKeepsRecordAndSequence : Obligations.RestartKeepsRecordAndSequence := by
  intro s hport
  refine ⟨⟨_, exec_restart hport, rfl⟩, fun p hp => ⟨_, exec_restart hport, ?_⟩⟩
  obtain rfl : s.powerOn = p := Host.Outcome.next.inj hp
  exact ⟨⟨rfl, rfl⟩, rfl⟩

section LineTick

/-- A bit is taken whatever the channel idle count. -/
theorem Link.takeBit_setIdleCount (l : Link) (n : Nat) (bit : Bool) :
    ({ l with idleCount := n } : Link).takeBit bit = { l.takeBit bit with idleCount := n } := by
  have hlength : ({ l with idleCount := n } : Link).lengthBit bit = { l.lengthBit bit with idleCount := n } := by
    unfold Link.lengthBit Link.moreBits
    split_ifs <;> rfl
  have hbody : ({ l with idleCount := n } : Link).bodyBit bit = { l.bodyBit bit with idleCount := n } := by
    unfold Link.bodyBit Link.moreBits
    split <;> rfl
  have hcheck : ({ l with idleCount := n } : Link).checkBit bit = { l.checkBit bit with idleCount := n } := by
    unfold Link.checkBit Link.moreBits
    split <;> rfl
  unfold Link.takeBit
  dsimp only
  split
  · rfl
  · rfl
  · exact hlength
  · exact hbody
  · exact hcheck

/-- The link controller after a line tick (R63, R68). -/
theorem Link.tick_eq (l : Link) (cd : Bool) (r : RxLine) :
    (l.idleTick cd).rxTick r =
      { (if r.retimed.getD l.toCentre < 12 then l.takeBit (majority r) else l) with
        toCentre :=
          r.retimedAfter.getD (if r.retimed.getD l.toCentre < 12 then r.retimed.getD l.toCentre + 25 else r.retimed.getD l.toCentre) - 12
        idleCount := if cd = true ∨ l.key = true then 0 else if l.idleCount < 200 then l.idleCount + 1 else l.idleCount } := by
  have hidle : (l.idleTick cd).idleCount =
      if cd = true ∨ l.key = true then 0 else if l.idleCount < 200 then l.idleCount + 1 else l.idleCount := by
    simp only [Link.idleTick, satSucc, Config.idleGap, or_comm]
  have htaken : (l.idleTick cd).takeBit (majority r) = { l.takeBit (majority r) with idleCount := (l.idleTick cd).idleCount } :=
    l.takeBit_setIdleCount _ _
  rw [← hidle, Link.rxTick, htaken]
  have hcentre : (l.idleTick cd).centreFrom r = r.retimed.getD l.toCentre := rfl
  rw [Link.centreAfter, hcentre]
  by_cases hfalls : r.retimed.getD l.toCentre < 12
  · simp only [if_pos hfalls]
  · simp only [if_neg hfalls]
    rfl

/-- The TPI runs after a line tick (R110). -/
theorem Align.tpiTick_eq (a : Align) (tpi : Bool) :
    a.tpiTick tpi =
      { a with
        lowRun := if tpi = true then 0 else if a.lowRun < 1000 then a.lowRun + 1 else a.lowRun
        highRun :=
          if tpi = false then 0 else if a.armed = true ∧ a.highRun < 2 then a.highRun + 1 else a.highRun } := by
  unfold Align.tpiTick satSucc Config.tpiLowTicks
  cases tpi <;> cases a.armed <;> simp

/-- The ramp timer after a line tick (R45). -/
theorem Drive.rampCount_eq (d : Drive) :
    d.rampCount =
      { d with
        rampTimer :=
          if d.state = .ramping ∧ d.switchClosed = true ∧ d.rampTimer < 1000 then d.rampTimer + 1 else d.rampTimer } := by
  unfold Drive.rampCount satSucc Config.rampPeriod
  by_cases hramp : d.state = .ramping ∧ d.switchClosed = true
  · simp [hramp]
  · rw [if_neg hramp, if_neg fun h => hramp ⟨h.1, h.2.1⟩]

/-- The line timer after a line tick in RUNNING (R1 to R3). -/
theorem Timer.tick_running (t : Timer) :
    t.tick true =
      { t with
        elapsed := (t.elapsed + 1) % 4294967296
        lineTime := (t.lineTime + 1) % 864000000
        epochWork :=
          if t.nextEpochEnd = some ((t.lineTime + 1) % 864000000) then .whole ((t.lineTime + 1) % 864000000) else t.epochWork
        counted := true } := by
  simp only [Timer.tick, Timer.fireEpochEnd, if_true, Config.day]
  split_ifs <;> rfl

/-- Settles O5: the four blocks that a line tick changes, by part state. -/
theorem lineTickCounts : Obligations.LineTickCounts := by
  rintro radio tpi _ s _ _ rfl rfl rfl
  have hexec : exec (.lineTick radio tpi) s = execLineTick radio tpi s := rfl
  refine ⟨fun hpart => ?_, fun hpart => ?_⟩
  · have hstopped : ¬ s.running := fun hrunning => absurd (hpart.symm.trans hrunning) nofun
    simp only [hexec, execLineTick, State.running, State.setTimer_port, State.setLines_port, hstopped, decide_false, if_false]
    rfl
  · simp only [hexec, execLineTick, State.running, State.setTimer_port, State.setLines_port, hpart, decide_true, if_true,
      Timer.tick_running, Link.tick_eq, Align.tpiTick_eq, Drive.rampCount_eq, majority_eq]
    rfl

end LineTick

/-- Settles O53: each law is decided of the reset state. -/
theorem resetMeetsEveryLaw : Obligations.ResetMeetsEveryLaw := by
  refine ⟨rfl, by decide, by decide, by decide, rfl, by decide, by decide, by decide, by decide, (peerTable_iff _).mp (peerTable_nil _),
    (noticesLawful_iff _).mp (noticesLawful_reset _ rfl), by decide, fun _ => ⟨rfl, rfl, rfl, rfl, rfl, rfl, rfl, rfl, rfl, rfl, rfl⟩,
    nofun, by decide, nofun, fun k => .inr rfl⟩

end Sys2Proof.Machine

/-! # The drive controller, calibration and the timed events (O14, O22 to O26, O28)

What the drive's operations are in the terms of the statements, and the rows that call them.
-/

namespace Sys2Proof.Machine

open Sys2Proof.Safety

section Bridges

variable (s : State)

/-- A latch changes the port's attention alone (R164, R166). -/
theorem State.latch_eq (r : Reason) : s.latch r = { s with port := latched s.port r } := by
  cases r <;> rfl

/-- The retry limit as a number and as the parameter's value (R51). -/
theorem retryCount_lt_iff : s.drive.retryCount < s.params.retryLimit ↔ (s.drive.retryCount : Int) < s.params.value 29 :=
  Int.lt_toNat

/-- Entry to HALTED, TRIPPED or LOCKOUT opens SWITCH (R41, R42, R46). -/
theorem switchFor_rest {goal : DriveState} (h : ¬ (goal = .ramping ∨ goal = .on)) (w : WindowState) : switchFor goal w = false := by
  simp [switchFor, h]

theorem State.lockOut_eq (c : TripCause) :
    s.lockOut c = { s with drive := { outputGone s.drive .lockout with cause := c }, port := latched s.port .driveLockout } := by
  rw [State.lockOut, State.latch_eq]
  rfl

theorem State.trip_eq (c : TripCause) : s.trip c = afterTrip s c := by
  unfold State.trip afterTrip
  simp only [retryCount_lt_iff, State.lockOut_eq, State.latch_eq]
  rfl

/-- A trip reads neither filter run. -/
theorem afterTrip_setOverRun (n : Nat) (c : TripCause) :
    afterTrip (s.setDrive { s.drive with overRun := n }) c = afterTrip s c := rfl

end Bridges

/-! ### Protection samples -/

section Samples

variable {s : State}

theorem protectionSample_of_rest (h : s.drive.state = .halted ∨ s.drive.state = .tripped ∨ s.drive.state = .lockout) (ch : Channel)
    (v : Int) : s.protectionSample ch v = s := by
  have hrest : ¬ (s.drive.state = .ramping ∨ s.drive.state = .on) := by rcases h with h | h | h <;> simp [h]
  unfold State.protectionSample
  rw [if_neg hrest]

theorem protectionSample_outi (h : s.drive.state = .ramping ∨ s.drive.state = .on) (v : Int) :
    s.protectionSample .outi v = s.outiSample v := by
  rw [State.protectionSample, if_pos h]

theorem protectionSample_outv (h : s.drive.state = .ramping ∨ s.drive.state = .on) (v : Int) :
    s.protectionSample .outv v = s.outvSample v := by
  rw [State.protectionSample, if_pos h]

/-- The demand in ON follows the code and the backoff, and the open-circuit filter the demand (R42, R50). -/
theorem Drive.follow_of_on {d : Drive} (h : d.state = .on) :
    d.follow =
      { d with
        demand := d.setpointCode - d.backoff
        openRun := if 205 ≤ d.setpointCode - d.backoff then d.openRun else 0 } := by
  simp only [Drive.follow, h, Drive.checkOpenArmed, Drive.openArmed, true_and]
  split_ifs <;> rfl

/-- The demand in RAMPING is held at the ramp cap (R43). -/
theorem Drive.follow_of_ramping {d : Drive} (h : d.state = .ramping) :
    d.follow = { d with demand := min d.demand (d.rampTarget - d.backoff) } := by
  simp only [Drive.follow, h]
  rfl

/-- The open-circuit filter on a state whose overcurrent run has been brought up to date (R50). -/
theorem openFilterSample_eq (s : State) (run : Nat) (v : Int) :
    (s.setDrive { s.drive with overRun := run }).openFilterSample v =
      if s.drive.state = .on ∧ 205 ≤ s.drive.demand then
        if v * 8 * 4095 < s.drive.demand * s.params.nat 21 * s.params.value 25 then
          if s.params.nat 26 ≤ s.drive.openRun + 1 then afterTrip s .openCircuit
          else { s with drive := { s.drive with overRun := run, openRun := s.drive.openRun + 1 } }
        else { s with drive := { s.drive with overRun := run, openRun := 0 } }
      else { s with drive := { s.drive with overRun := run } } := by
  have hbelow : (s.setDrive { s.drive with overRun := run }).belowOpenThreshold v ↔
      v * 8 * 4095 < s.drive.demand * s.params.nat 21 * s.params.value 25 := by
    simp only [State.belowOpenThreshold, Nat.cast_mul]
    rfl
  unfold State.openFilterSample
  simp only [hbelow, State.trip_eq, afterTrip_setOverRun]
  rfl

end Samples

/-- Settles O23: an OUTV sample sets the backoff, and the demand follows. -/
theorem voltageBackoff : Obligations.VoltageBackoff := by
  rintro s v _ rfl
  refine ⟨fun hon => ?_, fun hramp => ?_⟩
  · rw [protectionSample_outv (.inr hon), State.outvSample, Drive.follow_of_on (by exact hon)]
    rfl
  · rw [protectionSample_outv (.inl hramp), State.outvSample, Drive.follow_of_ramping (by exact hramp)]
    rfl

/-- Settles O24: the overcurrent filter, and where it does not trip the open-circuit filter. -/
theorem currentFilters : Obligations.CurrentFilters := by
  rintro s v _ rfl
  refine ⟨fun hd => ?_, fun hrest ch => protectionSample_of_rest hrest ch v⟩
  rw [protectionSample_outi hd, State.outiSample, ← openFilterSample_eq]
  by_cases hover : s.params.value 23 < v
  · have htrip : s.params.iTrip < v := hover
    simp only [if_pos hover, if_pos htrip, State.trip_eq]
  · have htrip : ¬ s.params.iTrip < v := hover
    simp only [if_neg hover, if_neg htrip]
    rfl

/-- Settles O25: the report by drive state. -/
theorem stuckSwitchReport : Obligations.StuckSwitchReport := by
  intro s
  refine ⟨fun h => ?_, fun h => ?_, fun h => ?_⟩
  · simp only [State.stuckSwitch, h]
  · rw [← State.lockOut_eq]
    rcases h with h | h | h <;> simp only [State.stuckSwitch, h]
  · simp only [State.stuckSwitch, h]
    rfl

/-! ### Ramp ticks, retries and the output commands -/

section Ramp

variable {s : State}

/-- A ramp tick below the cap (R45). -/
theorem Drive.rampStep_of_below {d : Drive} {step : Nat} (h : min (d.demand + step) d.rampCap ≠ d.rampCap) (now : Nat) :
    d.rampStep step now = { d with rampTimer := 0, demand := min (d.demand + step) d.rampCap } := by
  simp only [Drive.rampStep, h, if_false]

/-- A ramp tick that reaches the cap (R45, R46). -/
theorem Drive.rampStep_of_cap {d : Drive} {step : Nat} (h : min (d.demand + step) d.rampCap = d.rampCap) (now : Nat) :
    d.rampStep step now =
      { d with
        state := .on
        rampTimer := 0
        demand := d.setpointCode - d.backoff
        openRun := if 205 ≤ d.setpointCode - d.backoff then d.openRun else 0
        cleanRun := some now } := by
  simp only [Drive.rampStep, h, if_true, Drive.enterOn]
  rw [Drive.follow_of_on rfl]

theorem exec_rampTick (hramp : s.drive.state = .ramping) (htimer : s.drive.rampTimer = 1000) :
    exec .rampTick s = .next (s.withDrive (s.drive.rampStep s.params.rampStep s.timer.elapsed)) :=
  event_of_due ⟨hramp, htimer.ge⟩ s _

theorem exec_retryExpiry (htripped : s.drive.state = .tripped) (hretry : s.drive.retry = some s.timer.elapsed) :
    exec .retryExpiry s =
      .next (s.withDrive { s.drive with retryCount := s.drive.retryCount + 1, retry := none }.enterRamping) := by
  refine event_of_due ⟨htripped, _, hretry, ?_⟩ s _
  simp [elapsedReached, ticksSince]

end Ramp

/-- Settles O26: a ramp tick below and at the cap, and the retry's entry to RAMPING. -/
theorem rampTickAndRetryExpiry : Obligations.RampTickAndRetryExpiry := by
  intro s cap d
  refine ⟨fun hramp htimer hcap hd => ⟨fun hbelow => ?_, fun hreached => ?_⟩, fun htripped hretry => ?_⟩
  · subst hcap hd
    have hswitch : switchFor s.drive.state s.timer.window = decide (s.timer.window ≠ .off) := by simp [switchFor, hramp]
    have hstep : min (s.drive.demand + s.params.rampStep) s.drive.rampCap ≠ s.drive.rampCap := hbelow
    rw [exec_rampTick hramp htimer, Drive.rampStep_of_below hstep, ← hswitch]
    rfl
  · subst hcap
    have hmin : min (s.drive.demand + s.params.rampStep) s.drive.rampCap = s.drive.rampCap := hd.symm.trans hreached
    have hswitch : switchFor .on s.timer.window = decide (s.timer.window ≠ .off) := by simp [switchFor]
    rw [exec_rampTick hramp htimer, Drive.rampStep_of_cap hmin, ← hswitch]
    rfl
  · rw [exec_retryExpiry htripped hretry, State.withDrive_enterRamping]

section OutputCommands

variable {s : State}

theorem exec_clearFault (h : s.port.state ≠ .replying) : exec .clearFault s = .next (s.takeCommand .clearFault) :=
  portRow_next .clearFault s h

theorem clearFault_allowedIn_iff (part : PartState) : PortCommand.clearFault.allowedIn part = true ↔ part = .running :=
  decide_eq_true_iff

theorem State.outputOff_of_driven (h : s.drive.state = .ramping ∨ s.drive.state = .on ∨ s.drive.state = .tripped) :
    s.outputOff = { s with drive := outputGone s.drive .halted }.accept [] := by
  rcases h with h | h | h <;> simp only [State.outputOff, h] <;> rfl

theorem State.clearFault_of_faulted (h : s.drive.state = .tripped ∨ s.drive.state = .lockout) :
    s.clearFault =
      { s with drive := rampBegun s { s.drive with retry := none, retryCount := 0, cause := .noCause } }.accept [] := by
  rw [← State.withDrive_enterRamping]
  rcases h with h | h <;> simp only [State.clearFault, h]

theorem State.clearFault_of_sound (h : s.drive.state = .halted ∨ s.drive.state = .ramping ∨ s.drive.state = .on) :
    s.clearFault = s.refuse .state := by
  rcases h with h | h | h <;> simp only [State.clearFault, h]

end OutputCommands

/-- Settles O28: each command by drive state. -/
theorem outputOffAndClearFault : Obligations.OutputOffAndClearFault := by
  intro s hpart hport
  have off {a : Answer} (ha : s.outputOff = a) (hsame : SameReply s a.state) :
      ∃ t, exec .outputOff s = .next t ∧ Answers s t 0x22 a.code a.body a.state :=
    ⟨_, exec_outputOff hport, takeCommand_answers_of_perform (c := .outputOff) ((outputOff_allowedIn_iff _).mpr hpart) ha hsame⟩
  have clear {a : Answer} (ha : s.clearFault = a) (hsame : SameReply s a.state) :
      ∃ t, exec .clearFault s = .next t ∧ Answers s t 0x24 a.code a.body a.state :=
    ⟨_, exec_clearFault hport, takeCommand_answers_of_perform (c := .clearFault) ((clearFault_allowedIn_iff _).mpr hpart) ha hsame⟩
  refine ⟨fun h => off (State.outputOff_of_driven h) (.refl s), fun h => ?_, fun h => ?_,
    fun h => clear (State.clearFault_of_faulted h) (.refl s), fun h => clear (State.clearFault_of_sound h) (.refl s)⟩
  · exact off (a := s.accept []) (by simp only [State.outputOff, h]) (.refl s)
  · exact off (a := s.refuse .state) (by simp only [State.outputOff, h]) (.refl s)

/-- Settles O14: each event at a state in which it is due. -/
theorem timedEventsChangeOneBlock : Obligations.TimedEventsChangeOneBlock := by
  intro s a
  exact ⟨fun hlow h => event_of_due ⟨hlow, h⟩ s _, fun hpart harmed hrun => event_of_due ⟨hpart, harmed, hrun.ge⟩ s _,
    fun hon hrun h => event_of_due ⟨hon, a, hrun, h⟩ s _, fun hanchored hpulse h => event_of_due ⟨hanchored, a, hpulse, h⟩ s _,
    fun hkeyed h => event_of_due ⟨hkeyed, h⟩ s _⟩

/-! ### Calibration (R23, R24) -/

section Calibration

theorem clamp_eq {lo hi : Int} (h : lo ≤ hi) (x : Int) : clamp lo hi x = max lo (min hi x) := by
  unfold clamp
  split_ifs <;> omega

/-- A quotient from the bounds of its numerator. -/
theorem ediv_eq_of_bounds {x d q : Int} (hd : 0 < d) (hlow : q * d ≤ x) (hhigh : x < q * d + d) : x / d = q := by
  refine Int.le_antisymm (Int.lt_add_one_iff.mp (Int.ediv_lt_of_lt_mul hd ?_)) (Int.le_ediv_of_mul_le hd hlow)
  rw [add_mul, one_mul]
  exact hhigh

/-- The rounded quotient of section 6.3 is the one within half the divisor that a half carries away from zero. -/
theorem roundDiv_eq_of_rounded {x q : Int} {d : Nat} (hd : 0 < d) (h : Rounded x d q) : roundDiv x d = q := by
  obtain ⟨hnear, htie⟩ := h
  have hpos : 0 < q → (d : Int) ≤ q * d := fun hq => le_mul_of_one_le_left (by omega) hq
  have hneg : q < 0 → q * d ≤ -d := fun hq => by
    have hopp := le_mul_of_one_le_left (a := -q) (b := (d : Int)) (by omega) (by omega)
    rw [neg_mul] at hopp
    omega
  have hzero : q = 0 → q * d = 0 := fun hq => by rw [hq, zero_mul]
  have hdouble : q * (2 * d) = 2 * (q * d) := mul_left_comm q 2 (d : Int)
  generalize q * (d : Int) = m at hnear htie hpos hneg hzero hdouble
  unfold roundDiv
  split_ifs with hx
  · refine ediv_eq_of_bounds (by omega) ?_ ?_ <;> rw [hdouble] <;> omega
  · refine neg_eq_iff_eq_neg.mpr (ediv_eq_of_bounds (by omega) ?_ ?_) <;> rw [neg_mul, hdouble] <;> omega

/-- Settles O22: each channel's product is rounded, trimmed and clamped. -/
theorem calibrationRules : Obligations.CalibrationRules := by
  intro ps code q
  have hcount : max 0 code = if code < 0 then 0 else code := by split_ifs <;> omega
  refine ⟨fun h => ?_, fun h => ?_, fun h => ?_⟩
  · rw [Params.calibrate, roundDiv_eq_of_rounded (by decide) h, clamp_eq (by decide)]
  · simp only [Params.calibrate, hcount]
    rw [Params.iFs, roundDiv_eq_of_rounded (by decide) h, clamp_eq (by omega)]
  · simp only [Params.calibrate, hcount]
    rw [Params.vFs, roundDiv_eq_of_rounded (by decide) h, clamp_eq (by omega)]

end Calibration

end Sys2Proof.Machine

/-! # The link controller's rows (O10, O33 to O35)

What joining the transmit queue does, once for a list of frames offered in order; the equations of channel access and sending; where a bit
goes.
-/

namespace Sys2Proof.Machine

open Sys2Proof.Safety

/-! ### Frames offered to the transmit queue (R65 to R67) -/

section Offers

/-- A frame that becomes a head or joins the tail (R65, R69). -/
theorem Link.join_eq (l : Link) (e : TxEntry) :
    l.join e =
      { l with
        queue := l.queue ++ [e]
        window := if l.queue = [] then 16 else l.window
        attempts := if l.queue = [] then 0 else l.attempts
        tx := if l.queue = [] ∧ l.frame = none then .defer else l.tx } := by
  unfold Link.join Link.headArrives
  cases hq : l.queue with
  | nil => cases l.frame <;> simp
  | cons x xs => simp

/-- A frame offered: it joins, or is dropped and counted (R66, R67). -/
def Link.offer (l : Link) (e : TxEntry) : Link :=
  if l.queue.length < 6 then l.join e else { l with txDropTally := satSucc 65535 l.txDropTally }

/-- What is left of a list of frames offered in order: the first of them join while there is room, the others are dropped. -/
theorem Link.offers_eq (l : Link) (es : List TxEntry) (hplaces : l.queue.length ≤ 6) (htally : l.txDropTally ≤ 65535) :
    es.foldl Link.offer l =
      { l with
        queue := l.queue ++ es.take (6 - l.queue.length)
        txDropTally := min 65535 (l.txDropTally + (es.length - (6 - l.queue.length)))
        window := if l.queue = [] ∧ es ≠ [] then 16 else l.window
        attempts := if l.queue = [] ∧ es ≠ [] then 0 else l.attempts
        tx := if (l.queue = [] ∧ es ≠ []) ∧ l.frame = none then .defer else l.tx } := by
  induction es generalizing l with
  | nil =>
    have hsame : min 65535 l.txDropTally = l.txDropTally := min_eq_right htally
    simp [hsame]
  | cons e es ih =>
    rw [List.foldl_cons, Link.offer]
    by_cases hroom : l.queue.length < 6
    · have hplaces' : (l.join e).queue.length ≤ 6 := by
        rw [Link.join_eq, List.length_append, List.length_singleton]
        exact hroom
      have htaken : 6 - l.queue.length = (6 - (l.queue.length + 1)) + 1 := by omega
      have hdropped : es.length - (6 - (l.queue.length + 1)) = es.length + 1 - (6 - l.queue.length) := by omega
      rw [if_pos hroom, ih _ hplaces' (by rw [Link.join_eq]; exact htally), Link.join_eq]
      simp [htaken]
    · have hfull : l.queue.length = 6 := by omega
      have hhead : l.queue ≠ [] := fun hq => by simp [hq] at hfull
      have hcount : min 65535 (satSucc 65535 l.txDropTally + es.length) = min 65535 (l.txDropTally + (es.length + 1)) := by
        unfold satSucc
        split_ifs <;> omega
      rw [if_neg hroom, ih { l with txDropTally := satSucc 65535 l.txDropTally } hplaces (satSucc_le htally)]
      simp [hfull, hhead, hcount]

variable (s : State)

theorem State.offerCopy_eq (n : Notice) : s.offerCopy n = s.setLink (s.link.offer (.notice n)) := by
  unfold State.offerCopy Link.offer
  split_ifs <;> rfl

theorem State.requestStatus_of_waiting (h : TxEntry.status ∈ s.link.queue) : s.requestStatus = s := by
  rw [State.requestStatus, if_pos h]

theorem State.requestStatus_of_new (h : TxEntry.status ∉ s.link.queue) : s.requestStatus = s.setLink (s.link.offer .status) := by
  rw [State.requestStatus, if_neg h, Link.offer]
  split_ifs <;> rfl

theorem State.offerCopies_eq (es : List SurveyEntry) :
    s.offerCopies es =
      s.setLink (((es.filter fun e => decide (0 < e.copiesLeft)).map fun e => TxEntry.notice e.copy).foldl Link.offer s.link) := by
  induction es generalizing s with
  | nil => rfl
  | cons e es ih =>
    rw [State.offerCopies, ih]
    by_cases he : 0 < e.copiesLeft
    · simp only [he, if_true, decide_true, List.filter_cons_of_pos, List.map_cons, List.foldl_cons, State.offerCopy_eq]
      rfl
    · simp only [he, if_false, decide_false, Bool.false_eq_true, not_false_eq_true, List.filter_cons_of_neg]

/-- A transmission point's effect: the request and the copies are offered in order (R66, R144). -/
theorem State.pointTaken_eq {wanted copies : List TxEntry}
    (hcopies : copies = (s.survey.table.filter fun e => decide (0 < e.copiesLeft)).map fun e => TxEntry.notice e.copy)
    (hwanted : wanted = if TxEntry.status ∈ s.link.queue then copies else .status :: copies) :
    s.pointTaken =
      ((s.setTimer { s.timer with txPoint := none }).setLink (wanted.foldl Link.offer s.link)).setSurvey s.survey.countCopies := by
  unfold State.pointTaken
  rw [State.offerCopies_eq]
  subst hcopies
  by_cases hwaits : TxEntry.status ∈ s.link.queue
  · rw [State.requestStatus_of_waiting (s.setTimer { s.timer with txPoint := none }) hwaits, hwanted, if_pos hwaits]
    rfl
  · rw [State.requestStatus_of_new (s.setTimer { s.timer with txPoint := none }) hwaits, hwanted, if_neg hwaits]
    rfl

end Offers

/-- Settles O10: the frames wanted are offered in order. -/
theorem transmissionPointQueues : Obligations.TransmissionPointQueues := by
  intro s point copies wanted joined hpart hpoint hpast hplaces htally hcopies hwanted hjoined
  refine ⟨fun e p hrelay hparams => by simp only [SurveyEntry.copy, hrelay, hparams],
    fun e h hrelay hhalt => by simp only [SurveyEntry.copy, hrelay, hhalt, Option.getD_some], ?_⟩
  have hexec : exec .transmissionPoint s = .next s.pointTaken := event_of_due ⟨hpart, point, hpoint, hpast⟩ s _
  have hsome : s.link.queue = [] → wanted ≠ [] := fun hq => by simp [hwanted, hq]
  have hdropped : wanted.length - joined.length = wanted.length - (6 - s.link.queue.length) := by
    rw [hjoined, List.length_take]
    omega
  have hlink : s.pointTaken.link =
      { s.link with
        queue := s.link.queue ++ joined
        txDropTally := min 65535 (s.link.txDropTally + (wanted.length - joined.length))
        window := if s.link.queue = [] ∧ wanted ≠ [] then 16 else s.link.window
        attempts := if s.link.queue = [] ∧ wanted ≠ [] then 0 else s.link.attempts
        tx := if (s.link.queue = [] ∧ wanted ≠ []) ∧ s.link.frame = none then .defer else s.link.tx } := by
    rw [State.pointTaken_eq s hcopies hwanted, hdropped, hjoined, ← Link.offers_eq s.link wanted hplaces htally]
    rfl
  refine ⟨_, hexec, ?_, ?_, fun hq => ?_, fun hq => ?_, ?_⟩
  · rw [hlink]
  · rw [hlink]
  · simp [hlink, hq]
  · simp [hlink, hq, hsome hq]
  · rw [hlink, State.pointTaken_eq s hcopies hwanted, Link.offers_eq s.link wanted hplaces htally, hdropped, hjoined]
    rfl

/-! ### Channel access and sending (R69 to R73) -/

section Access

/-- The next head, or none (R65, R70, R71; log 29). -/
theorem Link.nextHead_eq (l : Link) :
    l.nextHead =
      { l with
        tx := if l.queue = [] then .idle else .defer
        window := if l.queue = [] then l.window else 16
        attempts := if l.queue = [] then l.attempts else 0 } := by
  unfold Link.nextHead Link.headArrives
  cases hq : l.queue <;> simp [hq]

theorem Link.assertKey_eq {l : Link} {head : TxEntry} {rest : List TxEntry} (h : l.queue = head :: rest) (now : Nat) :
    l.assertKey now =
      { l with
        queue := rest
        tx := .keyed
        frame := some { entry := head, body := head.body }
        key := true
        keyStart := now
        idleCount := 0
        rx := .off
        bits := []
        assembly := none
        window := if rest = [] then l.window else 16
        attempts := if rest = [] then l.attempts else 0 } := by
  simp only [Link.assertKey, h, Link.headArrives]
  cases rest <;> rfl

variable {s : State}

theorem State.busyFinding_of_more (h : s.link.attempts < 7) :
    s.busyFinding =
      s.setLink { s.link with attempts := s.link.attempts + 1, window := min 64 (2 * s.link.window), tx := .defer } := by
  unfold State.busyFinding
  rw [if_neg (by omega)]

theorem State.busyFinding_of_last (h : s.link.attempts = 7) :
    s.busyFinding =
      (s.setLink ({ s.link with queue := s.link.queue.tail, attempts := 8 } : Link).nextHead).countTxDrop := by
  unfold State.busyFinding
  rw [if_pos (by omega), h]

theorem exec_backoffEnd (htx : s.link.tx = .backoff) (hend : s.link.backoffEnd = s.timer.elapsed) :
    exec .backoffEnd s = .next (if s.lines.cd then s.busyFinding else s.setLink (s.link.assertKey s.timer.elapsed)) := by
  refine event_of_due ⟨htx, ?_⟩ s _
  simp [elapsedReached, ticksSince, hend]

end Access

/-- Settles O33: the drawn backoff, and the backoff end by CD and the attempt count. -/
theorem channelAccess : Obligations.ChannelAccess := by
  intro s head rest
  refine ⟨fun htx hidle hwindow => ?_, fun htx hend hqueue => ⟨fun hcd => ?_, fun hcd hless => ?_, fun hcd hseven => ?_⟩⟩
  · refine ⟨s.drawnBackoff, _, Nat.mod_lt _ hwindow, event_of_due ⟨htx, hidle.ge⟩ s _, ?_⟩
    rw [mul_comm 100]
    rfl
  · refine ⟨head.body, _, exec_backoffEnd htx hend, fun h => by rw [h]; rfl, fun n h => by rw [h]; rfl, ?_⟩
    rw [hcd, Link.assertKey_eq hqueue]
    rfl
  · rw [exec_backoffEnd htx hend, hcd, State.busyFinding_of_more hless]
    rfl
  · rw [exec_backoffEnd htx hend, hcd, State.busyFinding_of_last hseven, Link.nextHead_eq, hqueue]
    rfl

/-- Settles O34: the fields as they stand at the stamp, and the next head at KEY release. -/
theorem sendingStatus : Obligations.SendingStatus := by
  intro s f entry body htx
  refine ⟨fun hframe hplan hlag hf => ?_, fun hframe hend => ?_⟩
  · subst hf
    exact event_of_due ⟨htx, hframe, hplan, hlag⟩ s _
  · have hexec : exec .keyRelease s = .next (s.setLink s.link.releaseKey) :=
      event_of_due ⟨htx, _, hframe, body, rfl, hend⟩ s _
    rw [hexec, Link.releaseKey, Link.nextHead_eq]
    rfl

/-! ### Receiving (R74, R75, R77, R78) -/

section Receiving

variable {l : Link} {bit : Bool}

theorem Link.moreBits_length (l : Link) (bit : Bool) : (l.moreBits bit).length = l.bits.length + 1 := by
  simp [Link.moreBits]

theorem Link.takeBit_of_hunt (h : l.rx = .hunt) (hsixteen : l.bits.length ≤ 16) :
    l.takeBit bit = { l with bits := if l.bits.length = 16 then (l.bits ++ [bit]).drop 1 else l.bits ++ [bit] } := by
  have hdrop : (l.moreBits bit).drop ((l.moreBits bit).length - 16) =
      if l.bits.length = 16 then (l.bits ++ [bit]).drop 1 else l.bits ++ [bit] := by
    rw [Link.moreBits_length]
    split_ifs with hfull
    · rw [hfull]
      rfl
    · have hnone : l.bits.length + 1 - 16 = 0 := by omega
      rw [hnone]
      rfl
  simp only [Link.takeBit, h, Link.huntBit, hdrop]

/-- A byte is not whole yet. -/
theorem Link.takeBit_of_few (h : l.rx = .length ∨ l.rx = .body ∨ l.rx = .check) (hfew : l.bits.length < 7) :
    l.takeBit bit = { l with bits := l.bits ++ [bit] } := by
  have hless : (l.moreBits bit).length < 8 := by
    rw [Link.moreBits_length]
    omega
  rcases h with h | h | h <;> simp only [Link.takeBit, h, Link.lengthBit, Link.bodyBit, Link.checkBit, if_pos hless] <;> rfl

variable {b : Byte}

/-- The eighth bit makes a byte. -/
theorem Link.byteOf_moreBits (hbits : l.bits ++ [bit] = byteBits b) : byteOf (l.moreBits bit) = b := by
  rw [Link.moreBits, hbits, byteOf_byteBits]

theorem Link.takeBit_of_length (h : l.rx = .length) (hseven : l.bits.length = 7) (hbits : l.bits ++ [bit] = byteBits b) :
    l.takeBit bit =
      if validLength b.toNat then
        { l with rx := .body, bits := [], assembly := l.assembly.map fun f => { f with length := some b.toNat } }
      else { l with bits := l.bits ++ [bit] } := by
  have height : (l.moreBits bit).length = 8 := by rw [Link.moreBits_length, hseven]
  simp only [Link.takeBit, h, Link.lengthBit, height, lt_irrefl, if_false, Link.byteOf_moreBits hbits]
  rfl

theorem Link.takeBit_of_body {f : RxFrame} {n : Nat} (h : l.rx = .body) (hseven : l.bits.length = 7)
    (hbits : l.bits ++ [bit] = byteBits b) (hf : l.assembly = some f) (hn : f.length = some n) (hless : f.body.length < n) :
    l.takeBit bit =
      { l with
        rx := if f.body.length + 1 = n then .check else .body
        bits := []
        assembly := some { f with body := f.body ++ [b] } } := by
  have height : ¬ (l.moreBits bit).length < 8 := by rw [Link.moreBits_length, hseven]; decide
  have hdone : (∃ g ∈ (l.assembly.map fun f => f.takeBody b), g.bodyDone) ↔ f.body.length + 1 = n := by
    simp only [hf, Option.map_some, Option.mem_def, Option.some.injEq, exists_eq_left', RxFrame.bodyDone, RxFrame.takeBody, hn,
      List.length_append, List.length_singleton]
    omega
  simp only [Link.takeBit, h, Link.bodyBit, height, if_false, Link.byteOf_moreBits hbits, hdone]
  simp only [hf, Option.map_some, RxFrame.takeBody]

theorem Link.takeBit_of_check {f : RxFrame} (h : l.rx = .check) (hseven : l.bits.length = 7)
    (hbits : l.bits ++ [bit] = byteBits b) (hf : l.assembly = some f) (hless : f.crc.length < 2) :
    l.takeBit bit = { l with bits := [], assembly := some { f with crc := f.crc ++ [b] } } := by
  have height : ¬ (l.moreBits bit).length < 8 := by rw [Link.moreBits_length, hseven]; decide
  simp only [Link.takeBit, h, Link.checkBit, height, if_false, Link.byteOf_moreBits hbits, hf, Option.map_some, RxFrame.takeCrc,
    if_pos hless]

variable {s : State} {body : List Byte} {crc : Word16} {stamp : Nat}

/-- A frame that has been taken is examined, with the receiver back in HUNT (R75). -/
theorem exec_frameComplete (h : FrameTaken s body crc stamp) :
    exec (.frameComplete body crc) s = .next ((s.setLink (hunting s.link)).examine stamp body crc) := by
  obtain ⟨hrx, hassembly⟩ := h
  have hstamp : s.link.receiveStamp = stamp := by simp [Link.receiveStamp, hassembly]
  have hcrc : BitVec.ofNat 8 (crc.toNat / 256) :: [BitVec.ofNat 8 crc.toNat] = enc16 crc.toNat := rfl
  rw [← hstamp]
  exact event_of_due ⟨hrx, _, hassembly, rfl, hcrc⟩ s _

end Receiving

/-- Settles O35: where a bit goes by receiver state, and the four rows that end a search or a frame. -/
theorem receiverTakesFrames : Obligations.ReceiverTakesFrames := by
  rintro s l f bit _ b n body crc stamp rfl
  have hcovered : BitVec.ofNat 8 body.length :: body = airCovered body := rfl
  refine ⟨fun h => Link.takeBit_off h bit, fun h hsixteen => Link.takeBit_of_hunt h hsixteen, fun h hfew => Link.takeBit_of_few h hfew,
    fun hseven hbits hf => ⟨fun h hlow hhigh => ?_, fun h hbad => ?_, fun h hn hless => Link.takeBit_of_body h hseven hbits hf hn hless,
      fun h hless => Link.takeBit_of_check h hseven hbits hf hless⟩, fun hrx hbits => ?_, fun hrx hbits hbad => ?_,
    fun htaken hcrc => ?_, fun ⟨htaken, hcrc⟩ hform => ?_⟩
  · rw [Link.takeBit_of_length h hseven hbits, if_pos ⟨hlow, hhigh⟩, hf]
    rfl
  · rw [Link.takeBit_of_length h hseven hbits, if_neg (by unfold validLength; omega)]
  · exact event_of_due ⟨hrx, hbits, rfl⟩ s _
  · exact event_of_due ⟨hrx, hbits, by unfold validLength; omega⟩ s _
  · rw [exec_frameComplete htaken, State.examine, if_pos (hcovered ▸ hcrc.symm)]
    rfl
  · rw [exec_frameComplete htaken, State.examine, if_neg (by rw [hcrc, hcovered]; exact not_not.mpr rfl), hform]
    rfl

end Sys2Proof.Machine

/-! # The port's commands (O36, O45, O48 to O50)

A row of the port in the terms of its effect, the CRCs bit by bit, and the fields of the replies one by one.
-/

namespace Sys2Proof.Machine

open Sys2Proof.Safety

/-! ### A row and its answer -/

section Rows

variable {s : State} {c : PortCommand}

/-- A command's row takes the command at a port with no reply in progress. -/
theorem exec_rowOf (hport : s.port.state ≠ .replying) : exec (rowOf c) s = .next (s.takeCommand c) := by
  cases c <;> exact portRow_next _ s hport

/-- The row of a command that the part state allows answers what the command's effect says. -/
theorem rowOf_answers {a : Answer} (hport : s.port.state ≠ .replying) (hc : c.allowedIn s.port.part = true)
    (ha : s.perform c = a) (hsame : SameReply s a.state) :
    ∃ t, exec (rowOf c) s = .next t ∧ Answers s t c.code a.code a.body a.state :=
  ⟨_, exec_rowOf hport, takeCommand_answers_of_perform hc ha hsame⟩

/-- The row of a command that is refused by its own checks. -/
theorem rowOf_refuses {code : ReplyCode} (hport : s.port.state ≠ .replying) (hc : c.allowedIn s.port.part = true)
    (ha : s.perform c = s.refuse code) : ∃ t, exec (rowOf c) s = .next t ∧ Answers s t c.code code [] s :=
  rowOf_answers hport hc ha (.refl s)

end Rows

/-! ### The CRCs and the plan tag (R186, R187) -/

section Crc

/-- One more byte shifts its eight bits into the CRC-16 register. -/
theorem crc16_concat (bs : List Byte) (b : Byte) : crc16 (bs ++ [b]) = (byteBits b).foldl crc16Bit (crc16 bs) := by
  simp only [crc16, List.flatMap_append, List.foldl_append, List.flatMap_cons, List.flatMap_nil, List.append_nil]

/-- One more byte shifts its eight bits into the CRC-8 register. -/
theorem crc8_concat (bs : List Byte) (b : Byte) : crc8 (bs ++ [b]) = (byteBits b).foldl crc8Bit (crc8 bs) := by
  simp only [crc8, List.flatMap_append, List.foldl_append, List.flatMap_cons, List.flatMap_nil, List.append_nil]

/-- The four bytes of a field, each a quotient of the number. -/
theorem enc32_eq (n : Nat) :
    enc32 n = [BitVec.ofNat 8 (n / 16777216), BitVec.ofNat 8 (n / 65536), BitVec.ofNat 8 (n / 256), BitVec.ofNat 8 n] := by
  rw [enc32, enc16, enc16, Nat.div_div_eq_div_mul]
  rfl

/-- The plan tag over the five fields' bytes. -/
theorem NotchPlan.tag_eq (p : NotchPlan) :
    p.tag = crc16 ([p.period, p.offset, p.dither.code, if p.dither = .noDither then 0 else p.ditherSpan, p.length].flatMap
      enc32) := by
  simp only [NotchPlan.tag, List.flatMap_cons, List.flatMap_nil, List.append_nil, List.append_assoc]

theorem State.startPart_of_conflict {s : State} {n : Nat} (h : s.params.conflict = some n) :
    s.startPart = { state := s, code := .conflict, body := enc8 n } := by
  simp only [State.startPart, h]

theorem State.startPart_of_no_conflict {s : State} (h : s.params.conflict = none) : s.startPart = s.begin.accept [] := by
  simp only [State.startPart, h]

/-- A START that makes the part RUNNING stores the tag of the record's plan. -/
theorem startPart_planTag {s : State} (hpart : s.port.part = .setup) (hrun : s.startPart.state.port.part = .running) :
    s.startPart.state.port.planTag = s.params.notchPlan.tag := by
  cases h : s.params.conflict with
  | none => rw [State.startPart_of_no_conflict h]; rfl
  | some n =>
    rw [State.startPart_of_conflict h] at hrun
    exact absurd (hpart.symm.trans hrun) (by decide)

/-- What a taken START leaves of the port's part state and plan tag. -/
theorem takeCommand_start_port {s : State} (hpart : s.port.part = .setup) :
    (s.takeCommand .start).port.part = s.startPart.state.port.part ∧
      (s.takeCommand .start).port.planTag = s.startPart.state.port.planTag := by
  have hallowed : PortCommand.start.allowedIn s.port.part = true := decide_eq_true hpart
  simp only [State.takeCommand, hallowed, if_true]
  exact ⟨rfl, rfl⟩

end Crc

/-- Settles O36: the registers by the last byte, the tag by its five fields, and START by its conflict. -/
theorem crcAndPlanTag : Obligations.CrcAndPlanTag := by
  refine ⟨rfl, rfl, fun bs b => ?_, fun bs b => ?_, fun p bytes hbytes => ?_, fun s => ⟨?_, fun t ht hpart hrun => ?_⟩⟩
  · rw [crc16_concat, byteBits, List.foldl_map]
    simp only [crc16Bit, BitVec.msb_eq_getLsbD_last]
  · rw [crc8_concat, byteBits, List.foldl_map]
    simp only [crc8Bit, BitVec.msb_eq_getLsbD_last]
  · have hfields : bytes = [p.period, p.offset, p.dither.code, if p.dither = .noDither then 0 else p.ditherSpan,
        p.length].flatMap enc32 := by
      rw [hbytes, funext enc32_eq]
    exact ⟨by simp [hfields], by rw [p.tag_eq, hfields]⟩
  · rw [NotchPlan.tag_eq]
    exact congrArg crc16 (by decide)
  · rcases event_cases ht with ⟨_, rfl⟩ | ⟨_, rfl⟩
    · obtain ⟨hp, htag⟩ := takeCommand_start_port hpart
      rw [hp] at hrun
      rw [htag]
      exact startPart_planTag hpart hrun
    · exact absurd (hpart.symm.trans hrun) (by decide)

/-! ### LOAD PARAMETER and SET LINE TIME (R175, R176, R178) -/

section Loading

/-- A number of 1 to 45 is in range by its bounds, and parameter 26 by its list. -/
theorem paramInRange_iff {k : Nat} {lo hi v : Int} (h : paramRanges[k]? = some (lo, hi)) :
    paramInRange (k + 1) v = true ↔ lo ≤ v ∧ v ≤ hi ∧ (k = 25 → v ∈ openFilterValues) := by
  simp only [paramInRange, h, decide_eq_true_eq]

/-- A number outside 1 to 45 has no range. -/
theorem paramInRange_of_no_number {n : Nat} (h : n = 0 ∨ 45 < n) (v : Int) : paramInRange n v = false := by
  cases n with
  | zero => rfl
  | succ k =>
    have hnone : paramRanges[k]? = none := List.getElem?_eq_none (by simp [paramRanges]; omega)
    simp only [paramInRange, hnone]

theorem mem_openFilterValues (v : Int) :
    v ∈ openFilterValues ↔ v = 8 ∨ v = 16 ∨ v = 32 ∨ v = 64 ∨ v = 128 ∨ v = 256 := by
  simp [openFilterValues]

theorem Params.store_succ (ps : Params) (k : Fin 45) (v : Int) : ps.store (k + 1) v = ps.set k v := by
  refine Vector.ext fun i hi => ?_
  simp only [Params.store, Vector.getElem_setIfInBounds, Vector.getElem_set]

variable {s : State} {n : Nat} {v : Int}

theorem State.loadParameter_of_in_range (h : paramInRange n v = true) :
    s.loadParameter n v = ({ s with port := { s.port with params := s.params.store n v } } : State).accept [] := by
  rw [State.loadParameter, if_pos h]
  rfl

theorem State.loadParameter_of_out_of_range (h : paramInRange n v = false) : s.loadParameter n v = s.refuse .value := by
  rw [State.loadParameter, if_neg (by simp [h])]

end Loading

/-- Settles O48: the range of a number, and the line day. -/
theorem loadAndSetCommands : Obligations.LoadAndSetCommands := by
  intro s number time value ranges hpart hport hranges
  have hload : PortCommand.allowedIn (.loadParameter number value) s.port.part = true := decide_eq_true hpart
  have htime : PortCommand.allowedIn (.setLineTime time) s.port.part = true := decide_eq_true hpart
  have refused (h : paramInRange number value = false) :
      ∃ t, exec (.loadParameter number value) s = .next t ∧ Answers s t 0x10 .value [] s :=
    rowOf_refuses (c := .loadParameter number value) hport hload (State.loadParameter_of_out_of_range h)
  refine ⟨fun h => refused (paramInRange_of_no_number h value), fun k lo hi hk hn => ?_, fun h => ?_, fun h => ?_⟩
  · subst hn
    have hlisted : ranges = paramRanges := hranges
    have hrange := paramInRange_iff (v := value) (hlisted ▸ hk)
    have h25 : k.val = 25 ↔ k = 25 := by omega
    rw [mem_openFilterValues, h25] at hrange
    refine ⟨fun hlo hhi hlist => ?_, fun h => refused ?_⟩
    · have hin := hrange.mpr ⟨hlo, hhi, hlist⟩
      have hanswer := State.loadParameter_of_in_range (s := s) hin
      rw [Params.store_succ] at hanswer
      exact rowOf_answers (c := .loadParameter _ value) hport hload hanswer (.refl s)
    · rw [Bool.eq_false_iff, ne_eq, hrange]
      rintro ⟨hlo, hhi, hlist⟩
      rcases h with h | h | ⟨hk, h⟩
      · omega
      · omega
      · have := hlist hk; tauto
  · exact rowOf_answers (c := .setLineTime time) hport htime
      (a := ({ s with
        port := { s.port with startTime := time }
        timer := { s.timer with lineTime := time, counted := false } } : State).accept [])
      (by simp only [State.perform, State.setStartTime, Config.day, if_pos h]; rfl) (.refl s)
  · exact rowOf_refuses (c := .setLineTime time) hport htime
      (by simp only [State.perform, State.setStartTime, Config.day, if_neg h.not_gt])

end Sys2Proof.Machine

/-! # The reading commands (O50)

The fields of PART STATUS and of the two lists' entries, each read back at its place.
-/

namespace Sys2Proof.Machine

open Sys2Proof.Safety

/-! ### Fields and codes -/

section Codes

variable (n : Nat) (v : Int) (ys : List Byte)

@[simp] theorem length_enc32s : (enc32s v).length = 4 := by simp [enc32s]

theorem u16_enc16 : u16 (enc16 n) 0 = n % 65536 := by
  simpa using u16_enc16_append n []

theorem u32_enc32 : u32 (enc32 n) 0 = n % 4294967296 := by
  simpa using u32_enc32_append n []

theorem u32_enc32s_append : (u32 (enc32s v ++ ys) 0 : Int) = v % 4294967296 := by
  rw [enc32s, u32_enc32_append]
  omega

theorem u16_encId_append_map (id : Option SurveyId) :
    u16 (encId id ++ ys) 0 = (id.map fun i => i.origin).getD 0 % 65536 := by
  rw [u16_encId_append]
  cases id <;> rfl

theorem u8_encId_append_map (id : Option SurveyId) : u8 (encId id ++ ys) 2 = (id.map fun i => i.seq).getD 0 % 256 := by
  rw [u8_encId_append]
  cases id <;> rfl

/-- The survey identity of PART STATUS, absent as zero. -/
theorem enc_survey_of_none (id : Option SurveyId) (h : id = none) :
    u16 (encId id ++ ys) 0 = 0 ∧ u8 (encId id ++ ys) 2 = 0 := by
  rw [u16_encId_append, u8_encId_append, h]
  exact ⟨rfl, rfl⟩

/-! Every coded value is its own byte. -/

theorem PartState.code_mod (x : PartState) : x.code % 256 = x.code := by cases x <;> rfl
theorem TimingState.code_mod (x : TimingState) : x.code % 256 = x.code := Nat.mod_eq_of_lt x.code_lt
theorem Condition.code_mod (x : Condition) : x.code % 256 = x.code := Nat.mod_eq_of_lt x.code_lt
theorem Plan.code_mod (x : Plan) : x.code % 256 = x.code := by cases x <;> rfl
theorem DriveState.code_mod (x : DriveState) : x.code % 256 = x.code := by cases x <;> rfl
theorem TripCause.code_mod (x : TripCause) : x.code % 256 = x.code := by cases x <;> rfl
theorem BankState.code_mod (x : BankState) : x.code % 256 = x.code := by cases x <;> rfl
theorem EntryState.code_mod (x : EntryState) : x.code % 256 = x.code := by cases x <;> rfl
theorem NoticeAction.code_mod (x : NoticeAction) : x.code % 256 = x.code := by cases x <;> rfl
theorem Dither.code_mod (x : Dither) : x.code % 256 = x.code := by cases x <;> rfl
theorem toNat_mod (x : Bool) : x.toNat % 256 = x.toNat := by cases x <;> rfl

theorem presenceCode_mod (hold depth amount survey : Bool) :
    presenceCode hold depth amount survey % 256 =
      hold.toNat + depth.toNat * 2 + amount.toNat * 4 + survey.toNat * 8 := by
  revert hold depth amount survey
  decide

theorem entryPresence_mod (params halt : Bool) :
    (params.toNat + halt.toNat * 2) % 256 = params.toNat + halt.toNat * 2 := by
  revert params halt
  decide

end Codes

/-! ### The 30 bytes of a PEER LIST entry -/

section PeerFields

variable (p : Peer) (age : Nat)

theorem Peer.length_enc : (p.enc age).length = 30 := by simp [Peer.enc]

theorem Peer.length_list (l : List Peer) (age : Peer → Nat) : (l.flatMap fun p => p.enc (age p)).length = 30 * l.length := by
  simp only [List.length_flatMap, Peer.length_enc, List.map_const', List.sum_replicate, smul_eq_mul, mul_comm]

theorem Peer.enc_station : u16 (p.enc age) 0 = p.station % 65536 := by simp [Peer.enc, u16_enc16_append]

theorem Peer.enc_chainage : u16 (p.enc age) 2 = p.chainage % 65536 := by
  simp [Peer.enc, u16_append_right, u16_enc16_append]

theorem Peer.enc_planMatch : u8 (p.enc age) 4 = p.planMatch.toNat := by
  simp [Peer.enc, u8_append_right, u8_enc8_append, toNat_mod]

theorem Peer.enc_timing : u8 (p.enc age) 5 = p.timing.code := by
  simp [Peer.enc, u8_append_right, u8_enc8_append, TimingState.code_mod]

theorem Peer.enc_root : u16 (p.enc age) 6 = p.root % 65536 := by simp [Peer.enc, u16_append_right, u16_enc16_append]

theorem Peer.enc_offset : (u32 (p.enc age) 8 : Int) = p.offset % 4294967296 := by
  simp [Peer.enc, u32_append_right, u32_enc32s_append]

theorem Peer.enc_lastHeard : u16 (p.enc age) 12 = p.lastHeard % 65536 := by
  simp [Peer.enc, u16_append_right, u16_enc16_append]

theorem Peer.enc_age : u8 (p.enc age) 14 = age % 256 := by simp [Peer.enc, u8_append_right, u8_enc8_append]

theorem Peer.enc_drive : u8 (p.enc age) 15 = p.drive.code := by
  simp [Peer.enc, u8_append_right, u8_enc8_append, DriveState.code_mod]

theorem Peer.enc_current : u16 (p.enc age) 16 = p.current % 65536 := by
  simp [Peer.enc, u16_append_right, u16_enc16_append]

theorem Peer.enc_condition : u8 (p.enc age) 18 = p.condition.code := by
  simp [Peer.enc, u8_append_right, u8_enc8_append, Condition.code_mod]

theorem Peer.enc_presence : u8 (p.enc age) 19 =
    p.holdReason.isSome.toNat + p.depth.isSome.toNat * 2 + p.amount.isSome.toNat * 4 + p.survey.isSome.toNat * 8 := by
  simp [Peer.enc, u8_append_right, u8_enc8_append, presenceCode_mod]

theorem Peer.enc_holdReason : u8 (p.enc age) 20 = (p.holdReason.map HoldReason.code).getD 0 := by
  simp [Peer.enc, u8_append_right, encHold, u8_enc8_append, Nat.mod_eq_of_lt (holdCode_lt p.holdReason)]

theorem Peer.enc_depth : (u16 (p.enc age) 21 : Int) = p.depth.getD 0 % 65536 := by
  simp [Peer.enc, u16_append_right, u16_enc16s_append]

theorem Peer.enc_amount : u16 (p.enc age) 23 = p.amount.getD 0 % 65536 := by
  simp [Peer.enc, u16_append_right, u16_enc16_append]

theorem Peer.enc_plan : u8 (p.enc age) 25 = p.plan.code := by
  simp [Peer.enc, u8_append_right, u8_enc8_append, Plan.code_mod]

theorem Peer.enc_survey : u16 (p.enc age) 26 = (p.survey.map fun i => i.origin).getD 0 % 65536 ∧
    u8 (p.enc age) 28 = (p.survey.map fun i => i.seq).getD 0 % 256 := by
  simp only [← u16_encId_append_map (enc8 p.heardCount), ← u8_encId_append_map (enc8 p.heardCount)]
  simp [Peer.enc, u16_append_right, u8_append_right]

theorem Peer.enc_heardCount : u8 (p.enc age) 29 = p.heardCount % 256 := by simp [Peer.enc, u8_append_right, u8_enc8]

end PeerFields

/-! ### The 38 bytes of a SURVEY LIST entry -/

section EntryFields

variable (e : SurveyEntry)

theorem SurveyEntry.length_enc : e.enc.length = 38 := by simp [SurveyEntry.enc, SurveyId.enc]

theorem SurveyEntry.length_list (l : List SurveyEntry) : (l.flatMap SurveyEntry.enc).length = 38 * l.length := by
  simp only [List.length_flatMap, SurveyEntry.length_enc, List.map_const', List.sum_replicate, smul_eq_mul, mul_comm]

theorem SurveyEntry.enc_id : u16 e.enc 0 = e.id.origin % 65536 ∧ u8 e.enc 2 = e.id.seq % 256 := by
  simp [SurveyEntry.enc, SurveyId.enc, u8_append_right, u16_enc16_append, u8_enc8_append]

theorem SurveyEntry.enc_state : u8 e.enc 3 = e.state.code := by
  simp [SurveyEntry.enc, SurveyId.enc, u8_append_right, u8_enc8_append, EntryState.code_mod]

theorem SurveyEntry.enc_presence : u8 e.enc 4 = e.params.isSome.toNat + e.halt.isSome.toNat * 2 := by
  simp [SurveyEntry.enc, SurveyId.enc, u8_append_right, u8_enc8_append, entryPresence_mod]

theorem SurveyEntry.enc_span : u16 e.enc 5 = e.spanFrom % 65536 ∧ u16 e.enc 7 = e.spanTo % 65536 := by
  simp [SurveyEntry.enc, SurveyId.enc, u16_append_right, u16_enc16_append]

/-- The parameter fields of an entry without parameters are zero. -/
theorem SurveyEntry.enc_no_params (h : e.params = none) (k : Nat) (hlow : 9 ≤ k) (hhigh : k < 24) : u8 e.enc k = 0 := by
  interval_cases k <;>
    simp [SurveyEntry.enc, SurveyId.enc, h, enc32, enc16, Dither.code] <;> rfl

theorem SurveyEntry.enc_params {v : SurveyParams} (h : e.params = some v) :
    u32 e.enc 9 = v.start % 4294967296 ∧ u32 e.enc 13 = v.cycle % 4294967296 ∧ u16 e.enc 17 = v.offLen % 65536 ∧
      u8 e.enc 19 = v.dither.code ∧ u16 e.enc 20 = v.ditherSpan % 65536 ∧ u16 e.enc 22 = v.cycles % 65536 := by
  simp [SurveyEntry.enc, SurveyId.enc, h, u32_append_right, u32_enc32_append, u16_append_right, u16_enc16_append,
    u8_append_right, u8_enc8_append, Dither.code_mod]

theorem SurveyEntry.enc_times : u32 e.enc 24 = e.halt.getD 0 % 4294967296 ∧ u32 e.enc 28 = e.endTime.getD 0 % 4294967296 := by
  simp [SurveyEntry.enc, SurveyId.enc, u32_append_right, u32_enc32_append]

theorem SurveyEntry.enc_relaying : u8 e.enc 32 = e.relay.code ∧ u8 e.enc 33 = e.copiesLeft % 256 ∧
    u8 e.enc 34 = e.hops % 256 ∧ u8 e.enc 35 = e.heard % 256 := by
  simp [SurveyEntry.enc, SurveyId.enc, u8_append_right, u8_enc8_append, NoticeAction.code_mod]

theorem SurveyEntry.enc_receipt : u16 e.enc 36 = e.receipt % 65536 := by
  simp [SurveyEntry.enc, SurveyId.enc, u16_append_right, u16_enc16]

end EntryFields

/-! ### The 38 bytes of PART STATUS -/

section StatusFields

variable (s : State)

theorem State.length_statusBody : s.statusBody.length = 38 := by
  unfold State.statusBody
  simp

theorem State.statusBody_head : u8 s.statusBody 0 = s.port.part.code ∧ u8 s.statusBody 1 = s.align.timing.code ∧
    u16 s.statusBody 2 = s.align.root % 65536 ∧ u32 s.statusBody 4 = s.timer.lineTime % 4294967296 ∧
    u16 s.statusBody 8 = s.timer.tally % 65536 := by
  unfold State.statusBody
  simp [u8_append_right, u8_enc8_append, u16_append_right, u16_enc16_append, u32_append_right,
    u32_enc32_append, PartState.code_mod, TimingState.code_mod]

theorem State.statusBody_drive : u8 s.statusBody 10 = s.drive.state.code ∧ u8 s.statusBody 11 = s.drive.cause.code ∧
    u8 s.statusBody 12 = s.drive.retryCount % 256 ∧ u16 s.statusBody 13 = s.drive.demand % 65536 ∧
    u16 s.statusBody 15 = s.drive.backoff % 65536 := by
  unfold State.statusBody
  simp [u8_append_right, u8_enc8_append, u16_append_right, u16_enc16_append, DriveState.code_mod,
    TripCause.code_mod]

theorem State.statusBody_reg : u16 s.statusBody 17 = s.reg.iSet.toNat % 65536 ∧
    u8 s.statusBody 19 = s.reg.condition.code ∧ u8 s.statusBody 20 = s.reg.holdCount % 256 := by
  unfold State.statusBody
  simp [u8_append_right, u8_enc8_append, u16_append_right, u16_enc16_append, Condition.code_mod]

/-- The adopted survey of PART STATUS, absent as zero. -/
theorem State.statusBody_adopted :
    u16 s.statusBody 21 = (s.survey.adoptedEntry.map fun e => e.id.origin).getD 0 % 65536 ∧
      u8 s.statusBody 23 = (s.survey.adoptedEntry.map fun e => e.id.seq).getD 0 % 256 ∧
      u8 s.statusBody 24 = (s.survey.adoptedEntry.map fun e => e.state.code).getD 0 := by
  unfold State.statusBody
  cases s.survey.adoptedEntry <;>
    simp [u8_append_right, u8_enc8_append, u16_append_right, u16_encId_append, u8_encId_append,
      EntryState.code_mod]

theorem State.statusBody_tail : u8 s.statusBody 25 = s.records.queue.length % 256 ∧
    u8 s.statusBody 26 = s.acq.bankA.state.code ∧ u8 s.statusBody 27 = s.acq.bankB.state.code ∧
    u16 s.statusBody 28 = s.link.crcTally % 65536 ∧ u16 s.statusBody 30 = s.link.malformedTally % 65536 ∧
    u16 s.statusBody 32 = s.link.outOfSpanTally % 65536 ∧ u16 s.statusBody 34 = s.link.txDropTally % 65536 ∧
    u16 s.statusBody 36 = s.port.errors % 65536 := by
  unfold State.statusBody
  simp [u8_append_right, u8_enc8_append, u16_append_right, u16_enc16_append, u16_enc16, BankState.code_mod]

end StatusFields

/-- Settles O50: each command's body, and the fields one by one. -/
theorem readingCommands : Obligations.ReadingCommands := by
  intro s number hport
  refine ⟨fun h1 h45 => ?_, fun h => ?_, ?_, ?_, ?_, fun p age b hb => ?_, fun e b hb => ?_⟩
  · exact rowOf_answers (c := .readParameter number) hport rfl
      (a := s.accept (enc8 number ++ enc32s (s.params.value number)))
      (if_pos ⟨h1, h45⟩) (.refl s)
  · exact rowOf_refuses (c := .readParameter number) hport rfl (if_neg (by omega))
  · obtain ⟨t, ht, hanswer⟩ := rowOf_answers (c := .partStatus) (a := s.accept s.statusBody) hport rfl rfl (.refl s)
    obtain ⟨h0, h1, h2, h4, h8⟩ := s.statusBody_head
    obtain ⟨h10, h11, h12, h13, h15⟩ := s.statusBody_drive
    obtain ⟨h17, h19, h20⟩ := s.statusBody_reg
    obtain ⟨h21, h23, h24⟩ := s.statusBody_adopted
    obtain ⟨h25, h26, h27, h28, h30, h32, h34, h36⟩ := s.statusBody_tail
    refine ⟨t, s.statusBody, ht, hanswer, s.length_statusBody, h0, h1, h2, h4, h8, h10, h11, h12, h13, h15, h17, h19, h20,
      fun hnone => ?_, fun e hsome => ?_, h25, h26, h27, h28, h30, h32, h34, h36⟩
    · rw [h21, h23, h24, hnone]
      exact ⟨rfl, rfl, rfl⟩
    · rw [h21, h23, h24, hsome]
      exact ⟨rfl, rfl, rfl⟩
  · obtain ⟨t, ht, hanswer⟩ := rowOf_answers (c := .peerList) (a := s.accept s.peerListBody) hport rfl rfl (.refl s)
    exact ⟨t, _, ht, hanswer, Peer.length_list s.peers _, rfl⟩
  · obtain ⟨t, ht, hanswer⟩ := rowOf_answers (c := .surveyList) (a := s.accept s.surveyListBody) hport rfl rfl (.refl s)
    exact ⟨t, _, ht, hanswer, SurveyEntry.length_list s.survey.table, rfl⟩
  · subst hb
    obtain ⟨horigin, hseq⟩ := p.enc_survey age
    exact ⟨p.length_enc age, p.enc_station age, p.enc_chainage age, p.enc_planMatch age, p.enc_timing age, p.enc_root age,
      p.enc_offset age, p.enc_lastHeard age, p.enc_age age, p.enc_drive age, p.enc_current age, p.enc_condition age,
      p.enc_presence age, p.enc_holdReason age, p.enc_depth age, p.enc_amount age, p.enc_plan age, horigin, hseq,
      p.enc_heardCount age⟩
  · subst hb
    obtain ⟨horigin, hseq⟩ := e.enc_id
    obtain ⟨hfrom, hto⟩ := e.enc_span
    obtain ⟨hhalt, hend⟩ := e.enc_times
    obtain ⟨hrelay, hcopies, hhops, hheard⟩ := e.enc_relaying
    exact ⟨e.length_enc, horigin, hseq, e.enc_state, e.enc_presence, hfrom, hto, fun h => e.enc_no_params h,
      fun v h => e.enc_params h, hhalt, hend, hrelay, hcopies, hhops, hheard, e.enc_receipt⟩

end Sys2Proof.Machine

/-! # Captures and START (O45, O49) -/

namespace Sys2Proof.Machine

open Sys2Proof.Safety

/-! ### The banks the port names (R33, R38) -/

section Banks

variable {a : Acq} {id : BankId}

theorem Acq.heldBank_isSome (h : a.bankA.state = .held ∨ a.bankB.state = .held) : a.heldBank.isSome = true := by
  unfold Acq.heldBank
  rcases h with h | h
  · simp [h]
  · split_ifs <;> rfl

theorem Acq.heldBank_none (hA : a.bankA.state ≠ .held) (hB : a.bankB.state ≠ .held) : a.heldBank = none := by
  rw [Acq.heldBank, if_neg hA, if_neg hB]

/-- The one held bank. -/
theorem Acq.heldBank_some (h : (a.bank id).state = .held) (hother : (a.bank id.other).state ≠ .held) : a.heldBank = some id := by
  cases id with
  | a => exact if_pos h
  | b => exact (if_neg hother).trans (if_pos h)

theorem Acq.not_held (h : (a.bank id).state = .sealed) (hother : (a.bank id.other).state ≠ .held) : a.heldBank = none := by
  have hself : (a.bank id).state ≠ .held := by rw [h]; decide
  cases id with
  | a => exact Acq.heldBank_none hself hother
  | b => exact Acq.heldBank_none hother hself

theorem Acq.newestSealed_none (hA : a.bankA.state ≠ .sealed) (hB : a.bankB.state ≠ .sealed) : a.newestSealed = none := by
  simp only [Acq.newestSealed, hA, hB, false_and, if_false]

/-- The SEALED bank sealed more recently, or the only one. -/
theorem Acq.newestSealed_some (h : (a.bank id).state = .sealed)
    (hnewer : (a.bank id.other).state = .sealed → a.newer = some id) : a.newestSealed = some id := by
  by_cases hother : (a.bank id.other).state = .sealed
  · have hrecent := hnewer hother
    cases id <;> simp_all [Acq.newestSealed, Acq.bank, BankId.other]
  · cases id <;> simp_all [Acq.newestSealed, Acq.bank, BankId.other]

/-- The bank just freed is the only FREE one, so a pending take is made on it (R34, R39). -/
theorem Acq.makePendingTake_of_freed {w : PairWork} (hpending : a.pendingTake = true) (hcurrent : a.current = some w)
    (hother : (a.bank id.other).state ≠ .free) :
    (a.setBank id Bank.empty).makePendingTake =
      { a.setBank id w.pair.takenBank with current := some { w with bank := some id }, pendingTake := false } := by
  cases id with
  | a =>
    have htakeable : (a.setBank .a Bank.empty).takeable = some .a := rfl
    simp only [Acq.makePendingTake, Acq.setBank, hpending, hcurrent, Acq.take] at htakeable ⊢
    rw [htakeable]
  | b =>
    have htakeable : (a.setBank .b Bank.empty).takeable = some .b := (if_neg hother).trans (if_pos rfl)
    simp only [Acq.makePendingTake, Acq.setBank, hpending, hcurrent, Acq.take] at htakeable ⊢
    rw [htakeable]

theorem Acq.makePendingTake_of_no_take (hpending : a.pendingTake = false) :
    (a.setBank id Bank.empty).makePendingTake = a.setBank id Bank.empty := by
  cases id <;> simp only [Acq.makePendingTake, Acq.setBank, hpending]

end Banks

/-! ### What CAPTURE FETCH sends (section 11.5.1) -/

section CaptureFields

theorem Bank.length_encHeader (b : Bank) (first n : Nat) : (b.encHeader first n).length = 12 := by simp [Bank.encHeader]

theorem Bank.encHeader_counts (b : Bank) (first n : Nat) : u16 (b.encHeader first n) 6 = b.entries.length % 65536 ∧
    u16 (b.encHeader first n) 9 = first % 65536 ∧ u8 (b.encHeader first n) 11 = n % 256 := by
  simp [Bank.encHeader, u16_append_right, u16_enc16_append, u8_append_right, u8_enc8]

theorem Bank.encHeader_pair {b : Bank} {h : Header} (hb : b.header = some h) (first n : Nat) :
    u8 (b.encHeader first n) 0 = (if h.kind = .check then 1 else 2) ∧ u16 (b.encHeader first n) 1 = h.index % 65536 ∧
      u8 (b.encHeader first n) 8 = h.truncated.toNat * 2 + h.abandoned.toNat * 4 + h.short.toNat * 8 := by
  have hflags : flagsCode false h.truncated h.abandoned h.short false =
      h.truncated.toNat * 2 + h.abandoned.toNat * 4 + h.short.toNat * 8 := by simp [flagsCode]
  have hlt := flagsCode_lt false h.truncated h.abandoned h.short false
  have hkind := Nat.mod_eq_of_lt h.kind.code_lt
  rw [← hflags, ← PairKind.code_eq]
  simp [Bank.encHeader, hb, u8_append_right, u8_enc8_append, u16_append_right, u16_enc16_append, Nat.mod_eq_of_lt hlt, hkind]

theorem Bank.encHeader_survey {b : Bank} {h : Header} (hb : b.header = some h) (first n : Nat) :
    u16 (b.encHeader first n) 3 = (h.survey.getD { origin := 0, seq := 0 }).origin % 65536 ∧
      u8 (b.encHeader first n) 5 = (h.survey.getD { origin := 0, seq := 0 }).seq % 256 := by
  simp [Bank.encHeader, hb, u8_append_right, u16_append_right, u16_encId_append, u8_encId_append]

theorem Entry.length_enc (e : Entry) : e.enc.length = 4 := by simp [Entry.enc]

theorem Entry.length_list (l : List Entry) : (l.flatMap Entry.enc).length = 4 * l.length := by
  simp only [List.length_flatMap, Entry.length_enc, List.map_const', List.sum_replicate, smul_eq_mul, mul_comm]

/-- Entry k of those sent stands at byte 4k. -/
theorem Entry.enc_getElem? {l : List Entry} {k : Nat} {e : Entry} (h : l[k]? = some e) :
    (u16 (l.flatMap Entry.enc) (4 * k) : Int) = e.value % 65536 ∧
      (u16 (l.flatMap Entry.enc) (4 * k + 2) : Int) = e.slot % 65536 := by
  induction l generalizing k with
  | nil => simp at h
  | cons x xs ih =>
    rw [List.flatMap_cons]
    cases k with
    | zero =>
      obtain rfl : x = e := by simpa using h
      rw [Entry.enc, List.append_assoc]
      exact ⟨u16_enc16s_append _ _, by
        rw [u16_append_right _ _ (by simp), length_enc16s]; exact u16_enc16s_append _ _⟩
    | succ k =>
      have hx := x.length_enc
      rw [u16_append_right _ _ (by omega), u16_append_right _ _ (by omega), hx]
      exact ih (by simpa using h)

end CaptureFields

section CaptureEffects

variable {s : State} {id : BankId} {first count : Nat}

theorem State.captureFetch_of_bad_count (hheld : s.acq.heldBank = some id)
    (h : count = 0 ∨ 32 < count ∨ (s.acq.bank id).entries.length < first) : s.captureFetch first count = s.refuse .value := by
  simp only [State.captureFetch, hheld]
  exact if_pos (by omega)

theorem State.captureFetch_of_good_count (hheld : s.acq.heldBank = some id) (h1 : 1 ≤ count) (h32 : count ≤ 32)
    (hfirst : first ≤ (s.acq.bank id).entries.length) : s.captureFetch first count =
      s.accept ((s.acq.bank id).encHeader first (min count ((s.acq.bank id).entries.length - first)) ++
        (((s.acq.bank id).entries.drop first).take count).flatMap Entry.enc) := by
  have hlength : (((s.acq.bank id).entries.drop first).take count).length =
      min count ((s.acq.bank id).entries.length - first) := by simp
  simp only [State.captureFetch, hheld, hlength]
  exact if_neg (by omega)

theorem State.captureClose_of_held (hheld : s.acq.heldBank = some id) :
    s.captureClose = ({ s with acq := (s.acq.setBank id Bank.empty).makePendingTake } : State).accept [] := by
  simp only [State.captureClose, hheld]
  rfl

end CaptureEffects

/-- Settles O45: the bank each command names, and the fields of the reply one by one. -/
theorem captureCommands : Obligations.CaptureCommands := by
  intro s id first count hport
  refine ⟨fun hheld => ?_, fun hA hB hsA hsB => ?_, fun hsealed hother hnewer => ?_, fun hA hB => ⟨?_, ?_⟩,
    fun hheld hother => ?_⟩
  · exact rowOf_refuses (c := .captureOpen) hport rfl (if_pos (Acq.heldBank_isSome hheld))
  · refine rowOf_refuses (c := .captureOpen) hport rfl ?_
    simp [State.perform, State.captureOpen, Acq.heldBank_none hA hB, Acq.newestSealed_none hsA hsB]
  · refine rowOf_answers (c := .captureOpen) (s := s) (a := ({ s with
      acq := s.acq.setBank id { s.acq.bank id with state := .held } } : State).accept [if id = .a then 0 else 1]) hport rfl ?_
      (.refl s)
    simp only [State.perform, State.captureOpen, Acq.not_held hsealed hother, Acq.newestSealed_some hsealed hnewer]
    cases id <;> rfl
  · refine rowOf_refuses (c := .captureFetch first count) hport rfl ?_
    simp only [State.perform, State.captureFetch, Acq.heldBank_none hA hB]
  · refine rowOf_refuses (c := .captureClose) hport rfl ?_
    simp only [State.perform, State.captureClose, Acq.heldBank_none hA hB]
  · have hbank := Acq.heldBank_some hheld hother
    refine ⟨fun hbad => ?_, fun h1 h32 hfirst => ?_, fun hpending => ?_, fun w hpending hcurrent hfree => ?_⟩
    · exact rowOf_refuses (c := .captureFetch first count) hport rfl (State.captureFetch_of_bad_count hbank hbad)
    · obtain ⟨t, ht, hanswer⟩ := rowOf_answers (c := .captureFetch first count) hport rfl
        (State.captureFetch_of_good_count hbank h1 h32 hfirst) (.refl s)
      obtain ⟨hlength, hstart, hcount⟩ := (s.acq.bank id).encHeader_counts first
        (min count ((s.acq.bank id).entries.length - first))
      refine ⟨t, _, _, ht, hanswer, Bank.length_encHeader _ _ _, rfl, fun h hh => ?_, hlength, hstart, ?_, ?_,
        fun k e hk he => Entry.enc_getElem? ?_, rfl⟩
      · obtain ⟨hkind, hindex, hflags⟩ := Bank.encHeader_pair hh first (min count ((s.acq.bank id).entries.length - first))
        obtain ⟨horigin, hseq⟩ := Bank.encHeader_survey hh first (min count ((s.acq.bank id).entries.length - first))
        refine ⟨hkind, hindex, fun hnone => ?_, fun i hsome => ?_, hflags⟩
        · rw [horigin, hseq, hnone]
          exact ⟨rfl, rfl⟩
        · rw [horigin, hseq, hsome]
          exact ⟨rfl, rfl⟩
      · rw [hcount]
        omega
      · rw [Entry.length_list]
        simp
      · rw [List.getElem?_take_of_lt hk, List.getElem?_drop]
        exact he
    · have hclose := State.captureClose_of_held hbank
      rw [Acq.makePendingTake_of_no_take hpending] at hclose
      exact rowOf_answers (c := .captureClose) hport rfl hclose (.refl s)
    · have hclose := State.captureClose_of_held hbank
      rw [Acq.makePendingTake_of_freed hpending hcurrent hfree] at hclose
      exact rowOf_answers (c := .captureClose) hport rfl hclose (.refl s)

/-! ### START (R179, R180) -/

section Constraints

variable {ps : Params}

/-- The first of C1 to C7 that fails. -/
theorem Params.conflict_of_first {n : Nat} (h1 : 1 ≤ n) (h7 : n ≤ 7) (hn : ps.holds n = false)
    (hbefore : ∀ m, 1 ≤ m → m < n → ps.holds m = true) : ps.conflict = some n := by
  interval_cases n <;> simp [Params.conflict, List.find?, hn, hbefore]

theorem Params.conflict_none (h : ∀ n, 1 ≤ n → n ≤ 7 → ps.holds n = true) : ps.conflict = none := by
  simp [Params.conflict, List.find?, h]

/-- C7: the off slots needed are the least whole number of eighths above N_off x 8 / 7. -/
theorem Params.holds_seven : ps.holds 7 = true ↔
    ∃ m, ps.nat 12 * 8 ≤ m * 7 ∧ m * 7 < ps.nat 12 * 8 + 7 ∧ ps.nat 11 + m * 5 ≤ ps.nat 10 := by
  have hneeded : ps.holds 7 = true ↔ ps.nat 11 + (ps.nat 12 * 8 + 6) / 7 * 5 ≤ ps.nat 10 := decide_eq_true_iff
  rw [hneeded]
  constructor
  · exact fun h => ⟨(ps.nat 12 * 8 + 6) / 7, by omega, by omega, h⟩
  · rintro ⟨m, hlow, hhigh, h⟩
    omega

/-- The code of a current that lies in the scale (R57, R133). -/
theorem Params.codeOf_eq {current : Int} {code : Nat} (hscale : 0 < ps.value 21) (hin : current ≤ ps.value 21)
    (hlow : (code : Int) * ps.value 21 * 2 ≤ current * 4095 * 2 + ps.value 21)
    (hhigh : current * 4095 * 2 + ps.value 21 < ((code : Int) + 1) * ps.value 21 * 2) : ps.codeOf current = code := by
  have hfs : (ps.iFs : Int) = ps.value 21 := Int.toNat_of_nonneg hscale.le
  have hquotient : (2 * current * 4095 + ps.value 21) / (2 * ps.value 21) = code :=
    ediv_eq_of_bounds (by omega) (by linarith) (by linarith)
  have hcode : (code : Int) < 4096 := by
    by_contra hge
    nlinarith [mul_le_mul_of_nonneg_right (not_lt.mp hge) hscale.le]
  rw [Params.codeOf, hfs, hquotient, clamp_eq (by decide)]
  omega

end Constraints

section Starting

variable {s : State}

/-- START changes these blocks alone. -/
theorem begin_eq (s : State) : s.begin =
    { s with
      port := { s.port with part := .running, planTag := s.params.notchPlan.tag }
      timer := s.begin.timer, align := { Align.reset with timing := .acquire }, acq := s.begin.acq
      drive := s.begin.drive, reg := s.begin.reg, link := s.begin.link, draws := s.draws + 1 } := rfl

/-- The converter of a part that rests starts with an OUTI slot (R20). -/
theorem begin_acq_of_reset (hwindow : s.timer.window = .noWindow) (hpair : s.timer.pair = none) (hacq : s.acq = Acq.reset) :
    s.begin.acq =
      { Acq.reset with
        running := true
        slotStart := s.timer.elapsed
        seq := 1
        slot := some { channel := .outi, role := .noWindow, pair := none, offset := 0, switchClosed := true, seq := 0 }
        discardFirst := true } := by
  obtain ⟨timer, align, acq, drive, reg, link, peers, survey, records, port, lines, draws, pending⟩ := s
  obtain ⟨lineTime, elapsed, nextEpochEnd, tally, epochWork, txPoint, plan, pair, window, markLow, markStart, counted, opened⟩ := timer
  subst hwindow hpair hacq
  rfl

/-- What START makes of a part that rests in SETUP (R180). -/
theorem begin_of_setup {code : Nat} (hcode : s.params.codeOf s.params.iInit = code)
    (htimer : s.timer = { Timer.reset with lineTime := s.port.startTime, elapsed := s.timer.elapsed })
    (hacq : s.acq = Acq.reset) (hdrive : s.drive = Drive.reset) (hreg : s.reg = Reg.reset) (hlink : s.link = Link.reset) :
    s.begin =
      { s with
        port := { s.port with part := .running, planTag := s.params.notchPlan.tag }
        timer :=
          { Timer.reset with
            lineTime := s.port.startTime
            elapsed := s.timer.elapsed
            nextEpochEnd := some ((s.port.startTime / 100000 + 1) * 100000 % 864000000)
            txPoint := some ((s.port.startTime / 100000 * 100000 + s.drawnStatusDelay) % 864000000) }
        align := { Align.reset with timing := .acquire }
        acq :=
          { Acq.reset with
            running := true
            slotStart := s.timer.elapsed
            seq := 1
            slot := some { channel := .outi, role := .noWindow, pair := none, offset := 0, switchClosed := true, seq := 0 }
            discardFirst := true }
        drive := { Drive.reset with state := .ramping, setpointCode := code, rampTarget := code, switchClosed := true }
        reg := { Reg.reset with iSet := s.params.value 40, code := code }
        link := { Link.reset with rx := .hunt }
        draws := s.draws + 1 } := by
  have hwindow : s.timer.window = .noWindow := by rw [htimer]; rfl
  have hpair : s.timer.pair = none := by rw [htimer]; rfl
  rw [begin_eq, begin_acq_of_reset hwindow hpair hacq, begin_timer, begin_drive, begin_reg, begin_link, hcode, hwindow, hdrive,
    hreg, hlink]
  have hbegun : { s.timer with
      lineTime := s.port.startTime
      tally := 0
      nextEpochEnd := some (multipleAfter s.port.startTime)
      counted := false
      txPoint := some ((epochOf s.port.startTime * Config.epoch + s.drawnStatusDelay) % Config.day) } =
      { Timer.reset with
        lineTime := s.port.startTime
        elapsed := s.timer.elapsed
        nextEpochEnd := some ((s.port.startTime / 100000 + 1) * 100000 % 864000000)
        txPoint := some ((s.port.startTime / 100000 * 100000 + s.drawnStatusDelay) % 864000000) } := by
    generalize s.timer.elapsed = e at htimer
    rw [htimer]
    rfl
  rw [hbegun]
  rfl

theorem drawnStatusDelay_bounds (s : State) : 5000 ≤ s.drawnStatusDelay ∧ s.drawnStatusDelay ≤ 84999 := by
  unfold State.drawnStatusDelay
  omega

end Starting

/-- Settles O49: the first constraint that fails, or the run that START begins. -/
theorem startBeginsRun : Obligations.StartBeginsRun := by
  intro s holds code hpart hport hsetup h1 h2 h3 h4 h5 h6 h7
  have hallowed : PortCommand.start.allowedIn s.port.part = true := decide_eq_true hpart
  have hholds (n : Nat) (hlow : 1 ≤ n) (hhigh : n ≤ 7) : s.params.holds n = true ↔ holds n := by
    interval_cases n
    · rw [h1]; exact decide_eq_true_iff
    · rw [h2]; exact decide_eq_true_iff
    · rw [h3]; exact decide_eq_true_iff
    · rw [h4]; exact decide_eq_true_iff
    · rw [h5]; exact decide_eq_true_iff
    · rw [h6]; exact decide_eq_true_iff
    · rw [h7]; exact Params.holds_seven
  refine ⟨fun n hlow hhigh hfails hbefore => ?_, fun hall hinit hscale hcodeLow hcodeHigh => ?_⟩
  · have hconflict := Params.conflict_of_first hlow hhigh
      (Bool.eq_false_iff.mpr fun h => hfails ((hholds n hlow hhigh).mp h))
      fun m hm hmn => (hholds m hm (by omega)).mpr (hbefore m hm hmn)
    exact rowOf_answers (c := .start) hport hallowed (State.startPart_of_conflict hconflict) (.refl s)
  · have hconflict := Params.conflict_none fun n hlow hhigh => (hholds n hlow hhigh).mpr (hall n hlow hhigh)
    obtain ⟨_, hinitCeil, hceilScale⟩ := h3.mp (hall 3 (by decide) (by decide))
    have hcode : s.params.codeOf s.params.iInit = code :=
      Params.codeOf_eq hscale (hinitCeil.trans hceilScale) hcodeLow hcodeHigh
    obtain ⟨htimer, halign, hacq, hdrive, hreg, hlink, -⟩ := hsetup hpart
    have hstart := State.startPart_of_no_conflict hconflict
    rw [begin_of_setup hcode htimer hacq hdrive hreg hlink] at hstart
    obtain ⟨t, ht, hanswer⟩ := rowOf_answers (c := .start) hport hallowed hstart (.refl s)
    obtain ⟨hlow, hhigh⟩ := drawnStatusDelay_bounds s
    exact ⟨s.drawnStatusDelay, t, hlow, hhigh, ht, hanswer⟩

end Sys2Proof.Machine

/-! # The bytes of the port (O51, O52)

A command reads nothing of the frame in assembly, a frame's bytes are gathered one by one, and a command's bytes are read as the command.
-/

namespace Sys2Proof.Machine

open Sys2Proof.Safety

/-! ### SURVEY START by its checks (R142) -/

section StartSurvey

variable {s : State} {a : SurveyArgs}

/-- The operands of SURVEY START pass the fourth check of R142, and name these parameters. -/
abbrev State.SurveyAccepts (s : State) (a : SurveyArgs) (p : SurveyParams) : Prop :=
  surveyParamsOf a = some p ∧ p.InRange ∧ surveyArgsInRange a ∧ inSpan s.params a.spanFrom a.spanTo

theorem State.startSurvey_of_acquire (h : s.align.timing = .acquire) : s.startSurvey a = (s, .unsync) := by
  rw [State.startSurvey, if_pos h]

theorem State.startSurvey_of_adopted {e : SurveyEntry} (htiming : s.align.timing ≠ .acquire)
    (h : s.survey.adoptedEntry = some e) : s.startSurvey a = (s, .busy) := by
  rw [State.startSurvey, if_neg htiming, if_pos (Option.isSome_of_eq_some h)]

theorem State.startSurvey_of_good {p : SurveyParams} (htiming : s.align.timing ≠ .acquire) (hnone : s.survey.adoptedEntry = none)
    (h : s.SurveyAccepts a p) : s.startSurvey a = (s.acceptSurvey p a, .ok) := by
  obtain ⟨hp, hin⟩ := h
  simp only [State.startSurvey, hnone, hp, Option.isSome_none, Bool.false_eq_true, if_false]
  rw [if_neg htiming, if_pos hin]

theorem State.startSurvey_of_bad (htiming : s.align.timing ≠ .acquire) (hnone : s.survey.adoptedEntry = none)
    (h : ¬ ∃ p, s.SurveyAccepts a p) : s.startSurvey a = (s, .value) := by
  simp only [State.startSurvey, hnone, Option.isSome_none, Bool.false_eq_true, if_false]
  rw [if_neg htiming]
  split
  · rfl
  · next p hp => exact if_neg fun hin => h ⟨p, hp, hin⟩

end StartSurvey

/-! ### A command reads nothing of the frame in assembly -/

/-- The state with another frame in assembly at the port. -/
def State.framed (s : State) (state : PortState) (length : Option Nat) (bytes : List Byte) : State :=
  s.setPort { s.port with state := state, length := length, bytes := bytes }

section Framed

variable (s : State) (state : PortState) (length : Option Nat) (bytes : List Byte)

@[simp] theorem State.framed_acq : (s.framed state length bytes).acq = s.acq := rfl
@[simp] theorem State.framed_records : (s.framed state length bytes).records = s.records := rfl
@[simp] theorem State.framed_drive : (s.framed state length bytes).drive = s.drive := rfl
@[simp] theorem State.framed_align : (s.framed state length bytes).align = s.align := rfl
@[simp] theorem State.framed_survey : (s.framed state length bytes).survey = s.survey := rfl
@[simp] theorem State.framed_timer : (s.framed state length bytes).timer = s.timer := rfl
@[simp] theorem State.framed_params : (s.framed state length bytes).params = s.params := rfl
@[simp] theorem State.framed_part : (s.framed state length bytes).port.part = s.port.part := rfl

/-- A reply begun leaves nothing of the frame in assembly. -/
theorem State.framed_reply (command : Byte) (code : ReplyCode) (body : List Byte) :
    (s.framed state length bytes).reply command code body = s.reply command code body := rfl

theorem State.framed_begin : (s.framed state length bytes).begin = s.begin.framed state length bytes := by
  have htimer : (s.framed state length bytes).begin.timer = s.begin.timer := rfl
  have hacq : (s.framed state length bytes).begin.acq = s.begin.acq := rfl
  have hdrive : (s.framed state length bytes).begin.drive = s.begin.drive := rfl
  have hreg : (s.framed state length bytes).begin.reg = s.begin.reg := rfl
  have hlink : (s.framed state length bytes).begin.link = s.begin.link := rfl
  rw [begin_eq, begin_eq s, htimer, hacq, hdrive, hreg, hlink, State.framed_params]
  generalize s.params.notchPlan.tag = tag
  rfl

/-- An answer whose state has another frame in assembly. -/
def Answer.framed (a : Answer) (state : PortState) (length : Option Nat) (bytes : List Byte) : Answer :=
  { a with state := a.state.framed state length bytes }

/-- Every command but RESTART, which resets the port, leaves the frame in assembly and reads nothing of it. -/
theorem State.framed_perform {c : PortCommand} (hc : c ≠ .restart) :
    (s.framed state length bytes).perform c = (s.perform c).framed state length bytes := by
  cases c with
  | restart => exact absurd rfl hc
  | partStatus | readAttention | peerList | surveyList => rfl
  | loadParameter n v =>
    simp only [State.perform, State.loadParameter]
    split_ifs <;> rfl
  | readParameter n =>
    simp only [State.perform, State.readParameter]
    split_ifs <;> rfl
  | setLineTime t =>
    simp only [State.perform, State.setStartTime]
    split_ifs <;> rfl
  | start =>
    cases h : s.params.conflict with
    | none =>
      have hframed : (s.framed state length bytes).params.conflict = none := h
      rw [State.perform, State.perform, State.startPart_of_no_conflict h, State.startPart_of_no_conflict hframed,
        State.framed_begin]
      rfl
    | some n =>
      have hframed : (s.framed state length bytes).params.conflict = some n := h
      rw [State.perform, State.perform, State.startPart_of_conflict h, State.startPart_of_conflict hframed]
      rfl
  | readRecords n =>
    by_cases hn : 1 ≤ n ∧ n ≤ 4 <;> cases hq : s.records.queue.isEmpty <;>
      simp only [State.perform, State.readRecords, State.framed_records, hn, hq, Bool.false_eq_true, not_false_eq_true,
        if_true, if_false] <;> rfl
  | captureOpen =>
    cases hheld : s.acq.heldBank <;> cases hsealed : s.acq.newestSealed <;>
      simp only [State.perform, State.captureOpen, State.framed_acq, hheld, hsealed, Option.isSome, Bool.false_eq_true, if_true,
        if_false] <;> rfl
  | captureFetch first count =>
    cases hheld : s.acq.heldBank with
    | none => simp only [State.perform, State.captureFetch, State.framed_acq, hheld]; rfl
    | some id =>
      by_cases hbad : ¬ (1 ≤ count ∧ count ≤ 32) ∨ (s.acq.bank id).entries.length < first <;>
        simp only [State.perform, State.captureFetch, State.framed_acq, hheld, hbad, if_true, if_false] <;> rfl
  | captureClose =>
    simp only [State.perform, State.captureClose, State.framed_acq]
    split <;> rfl
  | surveyStart a =>
    simp only [State.perform]
    by_cases htiming : s.align.timing = .acquire
    · rw [State.startSurvey_of_acquire htiming, State.startSurvey_of_acquire (s := s.framed state length bytes) htiming]
      rfl
    · cases hadopted : s.survey.adoptedEntry with
      | some e =>
        rw [State.startSurvey_of_adopted htiming hadopted,
          State.startSurvey_of_adopted (s := s.framed state length bytes) htiming hadopted]
        rfl
      | none =>
        by_cases hgood : ∃ p, s.SurveyAccepts a p
        · obtain ⟨p, hgood⟩ := hgood
          rw [State.startSurvey_of_good htiming hadopted hgood,
            State.startSurvey_of_good (s := s.framed state length bytes) htiming hadopted hgood]
          rfl
        · rw [State.startSurvey_of_bad htiming hadopted hgood,
            State.startSurvey_of_bad (s := s.framed state length bytes) htiming hadopted hgood]
          rfl
  | surveyHalt =>
    simp only [State.perform, State.haltSurvey, State.framed_survey, State.framed_params]
    cases s.survey.adoptedEntry with
    | none => rfl
    | some e =>
      by_cases horigin : e.id.origin = s.params.station <;> cases hhalt : e.halt.isSome <;>
        simp only [horigin, hhalt, ne_eq, not_true, not_false_eq_true, Bool.false_eq_true, if_true, if_false] <;> rfl
  | outputOff =>
    simp only [State.perform, State.outputOff, State.framed_drive]
    split <;> rfl
  | outputOn =>
    simp only [State.perform, State.outputOn, State.framed_drive]
    split <;> rfl
  | clearFault =>
    simp only [State.perform, State.clearFault, State.framed_drive]
    split <;> rfl

/-- A command is taken in the same way whatever frame is in assembly. -/
theorem State.framed_takeCommand (c : PortCommand) : (s.framed state length bytes).takeCommand c = s.takeCommand c := by
  by_cases hc : c = .restart
  · rw [hc]
    rfl
  · unfold State.takeCommand
    simp only [State.framed_part, State.framed_perform s state length bytes hc]
    split_ifs <;> rfl

end Framed

/-! ### The bytes of a frame -/

section Bytes

variable {s : State} {b : Byte}

theorem State.countPortError_eq (s : State) : s.countPortError =
    { s with port := { s.port with errors := if s.port.errors < 65535 then s.port.errors + 1 else s.port.errors } } := rfl

theorem exec_portByte_idle (h : s.port.state = .idle) (hb : b ≠ 0xA5) : exec (.portByte b) s = .next s.countPortError := by
  change execPortByte b s = _
  simp only [execPortByte, h]
  rw [if_neg hb]

theorem exec_portByte_start (h : s.port.state = .idle) : exec (.portByte 0xA5) s =
    .next { s with port := { s.port with state := .receiving, length := none, bytes := [], lastByte := s.timer.elapsed } } := by
  change execPortByte 0xA5 s = _
  simp only [execPortByte, h]
  rw [if_pos trivial]
  rfl

theorem exec_portByte_replying (h : s.port.state = .replying) : exec (.portByte b) s = .next s.countPortError := by
  change execPortByte b s = _
  simp only [execPortByte, h]

theorem exec_portByte_receiving (h : s.port.state = .receiving) : exec (.portByte b) s = .next (s.receiveByte b) := by
  change execPortByte b s = _
  simp only [execPortByte, h]

/-- The byte that ends a frame: its CRC is compared, and the frame taken or lost (R170). -/
theorem receiveByte_last {k : Byte} {ps : List Byte} (hbytes : s.port.bytes = k :: ps)
    (hlength : s.port.length = some (1 + ps.length)) :
    s.receiveByte b =
      if crc8 (BitVec.ofNat 8 (1 + ps.length) :: k :: ps) = b then (s.byteJoined b).takeFrame k ps
      else (s.byteJoined b).portIdle.countPortError := by
  have hcount : (s.port.bytes ++ [b]).length = 1 + ps.length + 1 := by simp [hbytes, add_comm]
  have htake : (k :: (ps ++ [b])).take (1 + ps.length) = k :: ps := by simp [add_comm 1]
  have hcrc : (k :: (ps ++ [b])).getD (1 + ps.length) 0 = b := by simp [add_comm 1]
  have hparams : (ps ++ [b]).take (1 + ps.length - 1) = ps := by simp
  rw [receiveByte_of_length hlength, if_pos hcount, hbytes, List.cons_append, State.frameEnds, htake, hcrc, hparams]
  rfl

/-- The state with a frame of length L in assembly that has these bytes so far. -/
def State.assembling (s : State) (l : Nat) (bytes : List Byte) : State :=
  { s with port := { s.port with state := .receiving, length := some l, bytes := bytes, lastByte := s.timer.elapsed } }

/-- The start value and the length byte begin a frame. -/
theorem receiveBytes_head (h : s.port.state = .idle) {l : Nat} (hl : l % 256 = l) (hpos : l ≠ 0) (bs : List Byte) :
    receiveBytes s (0xA5 :: BitVec.ofNat 8 l :: bs) = receiveBytes (s.assembling l []) bs := by
  have hbyte : (BitVec.ofNat 8 l).toNat = l := by simpa using hl
  have hnonzero : BitVec.ofNat 8 l ≠ 0 := fun h0 => hpos (by simpa [h0] using hbyte.symm)
  rw [receiveBytes, exec_portByte_start h]
  dsimp only
  rw [receiveBytes, exec_portByte_receiving rfl, receiveByte_of_no_length rfl, if_neg hnonzero, hbyte]
  rfl

/-- Every byte before the last joins the frame. -/
theorem receiveBytes_join {l : Nat} (xs : List Byte) (ys bytes : List Byte) (h : bytes.length + xs.length ≤ l) :
    receiveBytes (s.assembling l bytes) (xs ++ ys) = receiveBytes (s.assembling l (bytes ++ xs)) ys := by
  induction xs generalizing bytes with
  | nil => rw [List.nil_append, List.append_nil]
  | cons x xs ih =>
    rw [List.length_cons] at h
    have hjoined : (s.assembling l bytes).receiveByte x = s.assembling l (bytes ++ [x]) := by
      rw [receiveByte_of_length (l := l) rfl, if_neg]
      · rfl
      · simp only [State.assembling, List.length_append, List.length_singleton]
        omega
    rw [List.cons_append, receiveBytes, exec_portByte_receiving rfl, hjoined]
    dsimp only
    rw [ih (bytes ++ [x]) (by simp; omega), List.append_assoc, List.singleton_append]

/-- A frame with a matching CRC takes its command when its last byte arrives. -/
theorem receiveBytes_frame (h : s.port.state = .idle) {k : Byte} {ps : List Byte} (hlength : ps.length < 255) :
    receiveBytes s ([0xA5, BitVec.ofNat 8 (1 + ps.length), k] ++ ps ++
        [crc8 (BitVec.ofNat 8 (1 + ps.length) :: k :: ps)]) =
      some (((s.assembling (1 + ps.length) (k :: ps)).byteJoined
        (crc8 (BitVec.ofNat 8 (1 + ps.length) :: k :: ps))).takeFrame k ps) := by
  have hsplit : [0xA5, BitVec.ofNat 8 (1 + ps.length), k] ++ ps ++ [crc8 (BitVec.ofNat 8 (1 + ps.length) :: k :: ps)] =
      0xA5 :: BitVec.ofNat 8 (1 + ps.length) :: ((k :: ps) ++ [crc8 (BitVec.ofNat 8 (1 + ps.length) :: k :: ps)]) := rfl
  rw [hsplit, receiveBytes_head h (by omega) (by omega), receiveBytes_join _ _ _ (by simp [add_comm]), List.nil_append, receiveBytes,
    exec_portByte_receiving rfl, receiveByte_last (k := k) (ps := ps) rfl rfl, if_pos rfl]
  rfl

end Bytes

/-! ### The bytes of a command -/

section CommandBytes

variable (n : Nat) (v : Int) (ys : List Byte)

theorem enc32s_eq : enc32s v = [BitVec.ofInt 8 (v / 16777216), BitVec.ofInt 8 (v / 65536), BitVec.ofInt 8 (v / 256),
    BitVec.ofInt 8 v] := by
  have hbyte (x : Int) (m : Nat) (h : ((m % 256 : Nat) : Int) = x % 256) : BitVec.ofNat 8 m = BitVec.ofInt 8 x := by
    apply BitVec.eq_of_toNat_eq
    rw [BitVec.toNat_ofNat, BitVec.toNat_ofInt]
    norm_num
    omega
  rw [enc32s, enc32_eq]
  exact congrArg₂ List.cons (hbyte _ _ (by omega)) (congrArg₂ List.cons (hbyte _ _ (by omega))
    (congrArg₂ List.cons (hbyte _ _ (by omega)) (congrArg₂ List.cons (hbyte _ _ (by omega)) rfl)))

theorem s32_enc32s (hlow : -2147483648 ≤ v) (hhigh : v ≤ 2147483647) : s32 (enc32s v) 0 = v := by
  have hread := u32_enc32s_append v []
  rw [List.append_nil] at hread
  rw [s32]
  split_ifs <;> omega

/-- A command's bytes are read as the command, for operands of their widths (section 11.5). -/
theorem parsePort_paramBytes {c : PortCommand} (h : (rowOf c).wellFormed = true) :
    parsePort c.code c.paramBytes = .command c := by
  cases c with
  | start | partStatus | readAttention | peerList | surveyList | captureOpen | captureClose | surveyHalt | outputOff | outputOn
  | clearFault | restart => rfl
  | loadParameter n v =>
    obtain ⟨hn, hlow, hhigh⟩ := of_decide_eq_true h
    have hvalue : s32 (enc8 n ++ enc32s v) 1 = v := by
      have hshift : s32 (enc8 n ++ enc32s v) 1 = s32 (enc32s v) 0 := by
        rw [s32, s32, u32_append_right _ _ (by simp), length_enc8]
      rw [hshift, s32_enc32s v hlow hhigh]
    simp [parsePort, PortCommand.code, PortCommand.paramBytes, parsedAs, u8_enc8_append, Nat.mod_eq_of_lt hn, hvalue]
  | readParameter n =>
    have hn : n < 256 := of_decide_eq_true h
    simp [parsePort, PortCommand.code, PortCommand.paramBytes, parsedAs, u8_enc8, Nat.mod_eq_of_lt hn]
  | setLineTime t =>
    have ht : t < 4294967296 := of_decide_eq_true h
    simp [parsePort, PortCommand.code, PortCommand.paramBytes, parsedAs, u32_enc32, Nat.mod_eq_of_lt ht]
  | readRecords n =>
    have hn : n < 256 := of_decide_eq_true h
    simp [parsePort, PortCommand.code, PortCommand.paramBytes, parsedAs, u8_enc8, Nat.mod_eq_of_lt hn]
  | captureFetch i n =>
    obtain ⟨hi, hn⟩ := of_decide_eq_true h
    simp [parsePort, PortCommand.code, PortCommand.paramBytes, parsedAs, u8_append_right, u16_enc16_append, u8_enc8,
      Nat.mod_eq_of_lt hi, Nat.mod_eq_of_lt hn]
  | surveyStart a =>
    obtain ⟨hlead, hcycle, hoff, hdither, hspan, hcycles, hfrom, hto, hhops⟩ := of_decide_eq_true h
    simp [parsePort, PortCommand.code, PortCommand.paramBytes, parsedAs, u8_append_right, u16_append_right, u32_append_right,
      u16_enc16_append, u32_enc32_append, u8_enc8_append, u8_enc8, Nat.mod_eq_of_lt hlead, Nat.mod_eq_of_lt hcycle,
      Nat.mod_eq_of_lt hoff, Nat.mod_eq_of_lt hdither, Nat.mod_eq_of_lt hspan, Nat.mod_eq_of_lt hcycles, Nat.mod_eq_of_lt hfrom,
      Nat.mod_eq_of_lt hto, Nat.mod_eq_of_lt hhops]

theorem PortCommand.length_paramBytes (c : PortCommand) : c.paramBytes.length < 255 := by
  cases c <;> simp [PortCommand.paramBytes]

/-- A command's frame, spelled out around its code and parameter bytes. -/
theorem PortCommand.frame_eq (c : PortCommand) :
    c.frame = [0xA5, BitVec.ofNat 8 (1 + c.paramBytes.length), c.code] ++ c.paramBytes ++
      [crc8 (BitVec.ofNat 8 (1 + c.paramBytes.length) :: c.code :: c.paramBytes)] := rfl

end CommandBytes

/-- Settles O51: the bytes are gathered, read as the command, and the command is taken as its row takes it. -/
theorem portBytesTakeCommand : Obligations.PortBytesTakeCommand := by
  intro s c k ps hidle hwell hspelled
  have hbytes : (k, ps) = (c.code, c.paramBytes) := by
    rw [hspelled]
    cases c <;> simp only [PortCommand.code, PortCommand.paramBytes, enc32_eq, enc32s_eq, enc16, enc8, List.cons_append, List.nil_append]
  obtain ⟨rfl, rfl⟩ := Prod.mk.inj hbytes
  refine ⟨_, exec_rowOf (s := { s with port := { s.port with lastByte := s.timer.elapsed } }) ?_, ?_, rfl, c.frame_eq⟩
  · exact fun h => absurd (hidle.symm.trans h) (by decide)
  · rw [c.frame_eq, receiveBytes_frame hidle c.length_paramBytes, State.takeFrame, parsePort_paramBytes hwell]
    exact congrArg some (State.framed_takeCommand { s with port := { s.port with lastByte := s.timer.elapsed } } .receiving
      (some (1 + c.paramBytes.length)) (c.code :: c.paramBytes ++ [crc8 _]) c)

/-! ### What the port loses and refuses (R168 to R172) -/

section Refusals

theorem parsePort_of_unknown (b : Byte) (h : b ∉ knownCodes) : parsePort b [] = .unknown := by
  revert b
  decide

/-- A known code with parameter bytes of another number than section 11.5's is refused for its length. -/
theorem parsePort_badLength {k : Byte} {length : Nat} {ps : List Byte}
    (h : (k, length) ∈ ([(0x10, 5), (0x11, 1), (0x12, 4), (0x13, 0), (0x14, 0), (0x15, 0), (0x16, 1), (0x17, 0), (0x18, 0),
      (0x19, 0), (0x1A, 3), (0x1B, 0), (0x20, 18), (0x21, 0), (0x22, 0), (0x23, 0), (0x24, 0), (0x2F, 0)] : List (Byte × Nat)))
    (hps : ps.length ≠ length) : parsePort k ps = .badLength := by
  simp only [List.mem_cons, Prod.mk.injEq, List.not_mem_nil, or_false] at h
  rcases h with ⟨rfl, rfl⟩ | ⟨rfl, rfl⟩ | ⟨rfl, rfl⟩ | ⟨rfl, rfl⟩ | ⟨rfl, rfl⟩ | ⟨rfl, rfl⟩ | ⟨rfl, rfl⟩ | ⟨rfl, rfl⟩ | ⟨rfl, rfl⟩ |
    ⟨rfl, rfl⟩ | ⟨rfl, rfl⟩ | ⟨rfl, rfl⟩ | ⟨rfl, rfl⟩ | ⟨rfl, rfl⟩ | ⟨rfl, rfl⟩ | ⟨rfl, rfl⟩ | ⟨rfl, rfl⟩ | ⟨rfl, rfl⟩ <;>
    exact if_neg hps

/-- The commands of SETUP alone and of RUNNING alone (section 10.4). -/
theorem PortCommand.allowedIn_false {c : PortCommand} {part : PartState}
    (h : part = .setup ∧ c.code ∈ ([0x20, 0x21, 0x22, 0x23, 0x24] : List Byte) ∨
      part = .running ∧ c.code ∈ ([0x10, 0x12, 0x13] : List Byte)) : c.allowedIn part = false := by
  rcases h with ⟨rfl, h⟩ | ⟨rfl, h⟩ <;> cases c <;> simp [PortCommand.code, PortCommand.allowedIn] at h ⊢

/-- A reply's frame has its body and five bytes around it. -/
theorem Reply.length_frame (r : Reply) : r.frame.length = 5 + r.body.length := by
  rw [Reply.frame, portFrame]
  simp only [List.length_cons, List.length_append, length_enc8, List.length_nil]
  omega

end Refusals

/-- Settles O52: each loss by the port state, and each refusal by the check that finds it. -/
theorem portLossesAndRefusals : Obligations.PortLossesAndRefusals := by
  intro s b c code body lost hlost
  subst hlost
  refine ⟨exec_portByte_idle, exec_portByte_replying, fun h hlength => ?_, fun h hlength hbytes hcrc => ?_, fun h hgap => ?_,
    fun hport hcode => ?_, fun k length ps hk hps h hbytes hlength hcrc => ?_, fun hport hc => ?_, fun h hreply hdue => ?_⟩
  · rw [exec_portByte_receiving h, receiveByte_of_no_length hlength, if_pos rfl]
    rfl
  · obtain ⟨k, ps, hbytes⟩ := List.exists_cons_of_ne_nil hbytes
    rw [hbytes, List.length_cons, add_comm] at hlength
    rw [hbytes, List.length_cons, add_comm] at hcrc
    rw [exec_portByte_receiving h, receiveByte_last hbytes hlength, if_neg (Ne.symm hcrc)]
    rfl
  · exact event_of_due ⟨h, hgap⟩ s _
  · exact ⟨_, event_of_due ⟨parsePort_of_unknown b hcode, hport⟩ s _, reply_answers (.refl s) b .unknown []⟩
  · refine ⟨_, exec_portByte_receiving h, ?_⟩
    rw [receiveByte_last hbytes hlength, if_pos hcrc.symm, State.takeFrame, parsePort_badLength hk hps]
    exact reply_answers (a := s.byteNoted) (.refl _) k .value []
  · exact ⟨_, exec_rowOf hport, takeCommand_refused (PortCommand.allowedIn_false hc)⟩
  · have hsent : s.replyDue := by
      refine ⟨h, _, hreply, ?_⟩
      rw [Reply.length_frame]
      change _ ≤ (s.timer.elapsed + 4294967296 - s.port.replyTick) % 4294967296 * 384
      linarith
    exact event_of_due hsent s _

end Sys2Proof.Machine

/-! # Where windows lie (O16) -/

namespace Sys2Proof.Machine

open Sys2Proof.Safety

section DayArithmetic

/-- A line time c ticks on, as the model takes it modulo the line day. -/
theorem shifted_eq (t : Nat) (c : Int) : shifted t c = dayMod (t + c) := rfl

/-- A value in the line day is itself. -/
theorem dayMod_of_in_day {x : Int} (hlow : 0 ≤ x) (hhigh : x < 864000000) : (dayMod x : Int) = x := by
  simp only [dayMod, Config.day]
  omega

/-- The ticks from one line time to another are the difference of what they were taken from. -/
theorem shifted_dayMod_neg_dayMod (x y : Int) : shifted (dayMod x) (-dayMod y) = dayMod (x - y) := by
  simp only [shifted_eq, dayMod, Config.day]
  omega

theorem shifted_dayMod_neg (x : Int) (n : Nat) : shifted (dayMod x) (-n) = dayMod (x - n) := by
  simp only [shifted_eq, dayMod, Config.day]
  omega

theorem shifted_neg_dayMod (n : Nat) (y : Int) : shifted n (-dayMod y) = dayMod (n - y) := by
  simp only [shifted_eq, dayMod, Config.day]
  omega

end DayArithmetic

/-- A check notch with its parameters in range lies in its own epoch (R9). -/
theorem notchPlan_pair_placed (ps : Params) (n k : Nat) (hn : n < 8640) (hlow : 10000 ≤ ps.nat 7) (hhigh : ps.nat 7 ≤ 60000)
    (hdither : ps.nat 9 ≤ 20000) (hlength : ps.nat 10 ≤ 8000) (honRef : ps.nat 13 ≤ 5000) :
    n * 100000 + 5000 ≤ (ps.notchPlan.pair n k).onRefStart ∧
      (ps.notchPlan.pair n k).onRefStart + ps.nat 13 = (ps.notchPlan.pair n k).offStart ∧
      (ps.notchPlan.pair n k).offStart + ps.nat 10 = (ps.notchPlan.pair n k).offEnd ∧
      (ps.notchPlan.pair n k).offEnd ≤ n * 100000 + 88000 := by
  have hspan := ditherAt_le n (ps.nat 9) ((ditherOfCode (ps.nat 8)).getD .noDither)
  have hoff := notchPlan_offStart ps n
  generalize ditherAt ((ditherOfCode (ps.nat 8)).getD .noDither) n (ps.nat 9) = dither at hspan hoff
  have hstart : (dayMod (ps.notchPlan.offStart n - ps.nat 13) : Int) = ps.notchPlan.offStart n - ps.nat 13 :=
    dayMod_of_in_day (by omega) (by omega)
  have hmid : (dayMod (ps.notchPlan.offStart n) : Int) = ps.notchPlan.offStart n := dayMod_of_in_day (by omega) (by omega)
  have hend : (dayMod (ps.notchPlan.offStart n + ps.nat 10) : Int) = ps.notchPlan.offStart n + ps.nat 10 :=
    dayMod_of_in_day (by omega) (by omega)
  change _ ≤ dayMod (ps.notchPlan.offStart n - ps.nat 13) ∧
    dayMod (ps.notchPlan.offStart n - ps.nat 13) + _ = dayMod (ps.notchPlan.offStart n) ∧
    dayMod (ps.notchPlan.offStart n) + _ = dayMod (ps.notchPlan.offStart n + ps.nat 10) ∧
    dayMod (ps.notchPlan.offStart n + ps.nat 10) ≤ _
  omega

/-- A survey cycle with its parameters in range has its windows within it (R11). -/
theorem surveyParams_pair_placed (v : SurveyParams) (id : SurveyId) (wOn k j : Nat) (hin : v.InRange) (hwOn : 500 ≤ wOn) :
    shifted (v.pair id wOn k j).offStart (-(v.pair id wOn k j).onRefStart) =
        min wOn (v.cycle - v.offLen - v.ditherSpan - 1000) ∧
      500 ≤ shifted (v.pair id wOn k j).offStart (-(v.pair id wOn k j).onRefStart) ∧
      1000 ≤ shifted (v.pair id wOn k j).onRefStart (-((v.start + k * v.cycle : Nat) : Int)) ∧
      shifted (v.pair id wOn k j).onRefStart (-((v.start + k * v.cycle : Nat) : Int)) < v.cycle ∧
      shifted (v.pair id wOn k j).offEnd (-(v.pair id wOn k j).offStart) = v.offLen ∧
      shifted (v.start + k * v.cycle + v.cycle) (-(v.pair id wOn k j).offEnd) = ditherAt v.dither k v.ditherSpan := by
  obtain ⟨⟨hcycleLow, hcycleHigh⟩, ⟨hoffLow, hoffHigh⟩, hspan, -, hroom, -⟩ := hin
  have hdither := ditherAt_le k v.ditherSpan v.dither
  have hoff := surveyParams_offStart v k
  have hwindow : v.onRefLen wOn = min wOn (v.cycle - v.offLen - v.ditherSpan - 1000) := rfl
  generalize ditherAt v.dither k v.ditherSpan = dither at hdither hoff
  rw [← hwindow]
  change shifted (dayMod (v.offStart k)) (-dayMod (v.offStart k - v.onRefLen wOn)) = _ ∧
    500 ≤ shifted (dayMod (v.offStart k)) (-dayMod (v.offStart k - v.onRefLen wOn)) ∧
    1000 ≤ shifted (dayMod (v.offStart k - v.onRefLen wOn)) (-((v.start + k * v.cycle : Nat) : Int)) ∧
    shifted (dayMod (v.offStart k - v.onRefLen wOn)) (-((v.start + k * v.cycle : Nat) : Int)) < v.cycle ∧
    shifted (dayMod (v.offStart k + v.offLen)) (-dayMod (v.offStart k)) = v.offLen ∧
    shifted (v.start + k * v.cycle + v.cycle) (-dayMod (v.offStart k + v.offLen)) = dither
  rw [shifted_dayMod_neg_dayMod, shifted_dayMod_neg, shifted_dayMod_neg_dayMod, shifted_neg_dayMod]
  rw [← Nat.cast_mul] at hoff
  generalize k * v.cycle = before at hoff ⊢
  push_cast at hoff ⊢
  have hlen : (dayMod (v.offStart k - (v.offStart k - v.onRefLen wOn)) : Int) = v.onRefLen wOn := by
    rw [dayMod_of_in_day (by omega) (by omega)]
    omega
  have hlead : (dayMod (v.offStart k - v.onRefLen wOn - (v.start + before)) : Int) =
      v.cycle - v.offLen - dither - v.onRefLen wOn := by
    rw [dayMod_of_in_day (by omega) (by omega)]
    omega
  have hoffLen : (dayMod (v.offStart k + v.offLen - v.offStart k) : Int) = v.offLen := by
    rw [dayMod_of_in_day (by omega) (by omega)]
    omega
  have hrest : (dayMod ((v.start : Int) + before + v.cycle - (v.offStart k + v.offLen)) : Int) = dither := by
    rw [dayMod_of_in_day (by omega) (by omega)]
    omega
  omega

/-- Settles O16: the placement of a check notch and of a survey cycle. -/
theorem windowPlacement : Obligations.WindowPlacement :=
  ⟨fun ps n k hn hlow hhigh hdither hlength honRef => notchPlan_pair_placed ps n k hn hlow hhigh hdither hlength honRef,
    fun v id wOn k j hin _ _ hwOn => surveyParams_pair_placed v id wOn k j hin hwOn⟩

end Sys2Proof.Machine

/-! # Epoch ends that move no line time (O6, O9) -/

namespace Sys2Proof.Machine

open Sys2Proof.Safety

/-! ### The work of every epoch end (R3, R4, R91) -/

section EpochWork

variable {s : State}

/-- The line timer and the peer table count the epoch as `epochCounted` says, with the transmission point drawn. -/
theorem countEpoch_removeAged (h : epochEndWaits s.timer = true) :
    s.countEpoch.removeAged = epochCounted s s.drawnStatusDelay := by
  unfold epochEndWaits at h
  unfold State.countEpoch epochCounted Timer.epochEndAhead
  cases hwork : s.timer.epochWork with
  | nothing => rw [hwork] at h; exact absurd h Bool.false_ne_true
  | rest => rfl
  | whole m =>
    rw [hwork] at h
    obtain ⟨-, -, hnext⟩ := of_decide_eq_true h
    have hahead : (if s.timer.nextEpochEnd = some m then some ((m + Config.epoch) % Config.day) else s.timer.nextEpochEnd) =
        some ((m + 100000) % 864000000) := by
      split_ifs with hm
      · rfl
      · exact hnext.resolve_left hm
    dsimp only
    rw [hahead]
    rfl

/-- An epoch end that waits runs the alignment unit's work on the counted state. -/
theorem exec_epochEnd (h : AtEpochEnd s) : exec .epochEnd s = .next (epochCounted s s.drawnStatusDelay).alignEpoch := by
  have hwork : s.timer.epochWork ≠ .nothing := fun hnothing => by
    have hwaits := h.2
    simp [epochEndWaits, hnothing] at hwaits
  rw [← countEpoch_removeAged h.2]
  exact event_of_due ⟨h.1, hwork⟩ s _

/-- What the drawn delay decides of a counted epoch: the transmission point. -/
theorem epochCounted_redrawn (s : State) (r r' : Nat) : epochCounted s r =
    { epochCounted s r' with
      timer := { (epochCounted s r').timer with txPoint := (epochCounted s r).timer.txPoint } } := by
  unfold epochCounted
  cases s.timer.epochWork <;> rfl

theorem epochCounted_align (s : State) (r : Nat) : (epochCounted s r).align = s.align := by
  unfold epochCounted
  cases s.timer.epochWork <;> rfl

theorem epochCounted_port (s : State) (r : Nat) : (epochCounted s r).port = s.port := by
  unfold epochCounted
  cases s.timer.epochWork <;> rfl

end EpochWork

/-! ### Peers and streaks (R94, R106, R109) -/

section Peers

variable (s : State) {p : Peer}

theorem mem_syncPeers : p ∈ s.syncPeers ↔ SynchronizedPeer s p := by
  simp only [State.syncPeers, List.mem_filter, decide_eq_true_eq]
  rfl

theorem mem_candidates : p ∈ s.candidates ↔ MergeCandidate s p := by
  simp only [State.candidates, List.mem_filter, decide_eq_true_eq]
  rfl

theorem nextLowerStreak_of_candidate (h : MergeCandidate s p) : s.nextLowerStreak = s.align.lowerStreak + 1 := by
  have hmem := (mem_candidates s).mpr h
  refine if_neg fun hempty => ?_
  rw [List.isEmpty_iff.mp hempty] at hmem
  exact List.not_mem_nil hmem

theorem nextLowerStreak_of_none (h : ¬ ∃ p ∈ s.peers, MergeCandidate s p) : s.nextLowerStreak = 0 := by
  refine if_pos (List.isEmpty_iff.mpr (List.eq_nil_iff_forall_not_mem.mpr fun p hp => h ?_))
  have hcandidate := (mem_candidates s).mp hp
  exact ⟨p, hcandidate.1, hcandidate⟩

/-- The lost-lock streak rises when some peer is synchronized and none of them near. -/
theorem nextLostStreak_of_lost (hsome : ∃ p, SynchronizedPeer s p) (hfar : ∀ p, SynchronizedPeer s p → ¬ p.near) :
    s.nextLostStreak = s.align.lostStreak + 1 := by
  obtain ⟨p, hp⟩ := hsome
  have hmem := (mem_syncPeers s).mpr hp
  refine if_pos ⟨fun hempty => ?_, fun q hq => hfar q ((mem_syncPeers s).mp hq)⟩
  rw [List.isEmpty_iff.mp hempty] at hmem
  exact List.not_mem_nil hmem

theorem nextLostStreak_of_near (h : ¬ ((∃ p, SynchronizedPeer s p) ∧ ∀ p, SynchronizedPeer s p → ¬ p.near)) :
    s.nextLostStreak = 0 := by
  refine if_neg fun ⟨hsome, hfar⟩ => h ⟨?_, fun p hp => hfar p ((mem_syncPeers s).mpr hp)⟩
  obtain ⟨p, hp⟩ := List.exists_mem_of_ne_nil s.syncPeers fun hnil => hsome (by rw [hnil]; rfl)
  exact ⟨p, (mem_syncPeers s).mp hp⟩

end Peers

/-! ### The alignment unit by its state -/

section AlignEpoch

variable {s : State}

theorem alignEpoch_of_tracking (h : s.align.timing = .free ∨ s.align.timing = .tracking) : s.alignEpoch = s.trackingEpoch := by
  unfold State.alignEpoch
  rcases h with h | h <;> rw [h]

/-- The state with both streaks brought up to date (R106, R109). -/
def State.streaked (s : State) : State :=
  s.setAlign { s.align with lowerStreak := s.nextLowerStreak, lostStreak := s.nextLostStreak }

theorem trackingEpoch_of_merge (h : 3 ≤ s.nextLowerStreak) : s.trackingEpoch = s.streaked.merge := if_pos h

theorem trackingEpoch_of_lost (hlower : s.nextLowerStreak < 3) (hlost : 6 ≤ s.nextLostStreak) :
    s.trackingEpoch = s.streaked.loseLock := (if_neg hlower.not_ge).trans (if_pos hlost)

theorem trackingEpoch_of_kept (hlower : s.nextLowerStreak < 3) (hlost : s.nextLostStreak < 6) :
    s.trackingEpoch = s.streaked.handCorrection s.streaked.averagingCorrection :=
  (if_neg hlower.not_ge).trans (if_neg hlost.not_ge)

end AlignEpoch

/-- Settles O6: the counted state, and in ACQUIRE the acquire count. -/
theorem epochEndInAcquireOrAnchored : Obligations.EpochEndInAcquireOrAnchored := by
  intro s hend htiming
  obtain ⟨hlow, hhigh⟩ := drawnStatusDelay_bounds s
  refine ⟨s.drawnStatusDelay, _, hlow, hhigh, exec_epochEnd hend, ?_⟩
  have halign := epochCounted_align s s.drawnStatusDelay
  have hport := epochCounted_port s s.drawnStatusDelay
  unfold State.alignEpoch
  rcases htiming with h | h
  · have hanchored : ¬ s.align.timing = .anchored := by rw [h]; decide
    rw [halign, h, if_neg (by decide)]
    dsimp only
    rw [State.acquireEpoch, halign]
    by_cases hcount : s.align.acquireCount < 2
    · rw [if_neg (by omega), if_pos hcount, State.setAlign]
    · rw [if_pos (by omega), if_neg hcount, State.setAlign, State.params, hport]
      rfl
  · rw [halign, h, if_pos rfl, ← halign]

/-- Settles O9: the streak reaches six and no merge comes first. -/
theorem lostLockEntersAcquire : Obligations.LostLockEntersAcquire := by
  intro s u hend htiming hu hstreak hmerge hsome hfar
  obtain ⟨hlow, hhigh⟩ := drawnStatusDelay_bounds s
  have hredrawn := epochCounted_redrawn s s.drawnStatusDelay 0
  rw [← hu] at hredrawn
  have halign := epochCounted_align s s.drawnStatusDelay
  have hport := epochCounted_port s s.drawnStatusDelay
  refine ⟨s.drawnStatusDelay, _, hlow, hhigh, exec_epochEnd hend, ?_⟩
  generalize epochCounted s s.drawnStatusDelay = v at hredrawn halign hport
  have hlower : v.nextLowerStreak < 3 := by
    by_cases h : ∃ p ∈ v.peers, MergeCandidate v p
    · obtain ⟨p, -, hp⟩ := id h
      rw [nextLowerStreak_of_candidate _ hp, halign]
      rw [hredrawn] at h
      have := hmerge.resolve_right (not_not_intro h)
      omega
    · rw [nextLowerStreak_of_none _ h]
      decide
  have hlost : v.nextLostStreak = v.align.lostStreak + 1 := by
    rw [hredrawn]
    obtain ⟨p, -, hp⟩ := hsome
    refine nextLostStreak_of_lost _ ⟨p, hp⟩ fun p hp hnear => ?_
    have := hfar p hp.1 hp
    omega
  rw [alignEpoch_of_tracking (by rwa [halign]), trackingEpoch_of_lost hlower (by rw [hlost, halign]; omega), State.loseLock,
    State.latch_eq]
  simp only [State.streaked, State.setAlign, halign, hport]

end Sys2Proof.Machine

/-! # The regulation point (O29, O30)

The record queue and the code as the statements name them, the regulation point as one change of four blocks, and then each reading.
-/

namespace Sys2Proof.Machine

open Sys2Proof.Safety

/-! ### A record joins the queue, and a code is handed over -/

section Blocks

variable (s : State)

theorem Records.join_eq {q : Records} (h : q.discards ≤ 255) (r : CycleRecord) : q.join r = queueJoined q r := by
  have hcount : satSucc 255 q.discards = min 255 (q.discards + 1) := by
    unfold satSucc
    split_ifs <;> omega
  rw [Records.join, queueJoined, hcount, List.drop_one]

/-- A record joins, and RECORDS is latched from the threshold on (R161, R165). -/
theorem State.addRecord_eq (r : CycleRecord) : s.addRecord r =
    { s with
      records := s.records.join r
      port := if s.params.recordThreshold ≤ (s.records.join r).queue.length then latched s.port .records else s.port } := by
  simp only [State.addRecord, State.latchIf]
  split_ifs <;> rfl

theorem recordJoined_eq (p : Port) (held : Nat) :
    (if s.params.recordThreshold ≤ held then latched p .records else p) = recordJoined s p held :=
  if_congr Int.toNat_le rfl rfl

/-- The drive takes a code as `codeTaken` says (R43, R50). -/
theorem Drive.takeCode_eq (d : Drive) (code : Nat) : d.takeCode code = codeTaken d code := by
  unfold Drive.takeCode codeTaken
  cases d.state with
  | on =>
    simp only [Drive.follow, Drive.checkOpenArmed, Drive.openArmed, true_and, reduceCtorEq, if_false]
    split_ifs <;> rfl
  | ramping => simp only [Drive.follow, Drive.rampCap, if_true]
  | halted | tripped | lockout => simp only [Drive.follow, reduceCtorEq, if_false]

end Blocks

/-! ### The regulation point as one change -/

section RegulationPoint

/-- The synchronized influence peers are read from the peer table, the tally, the root and the parameters (R137). -/
theorem syncInfluence_of_params (x y : State) (hpeers : x.peers = y.peers) (htally : x.timer.tally = y.timer.tally)
    (hroot : x.align.root = y.align.root) (hparams : x.params = y.params) : x.syncInfluence = y.syncInfluence := by
  simp only [State.syncInfluence, State.influencePeers, hpeers, htally, hroot, hparams]

variable (s : State) (r : Reduction)

/-- The regulator after a reading (R126, R132). -/
def State.regRead : Reg :=
  match s.holdReasonOf r with
  | some h => s.reg.held h
  | none => s.regAfterValid (-(r.eOff.getD 0))

/-- The port after a reading, before its record (R126). -/
def State.portRead : Port :=
  if (s.holdReasonOf r).isSome ∧ s.reachesHoldAlarm then latched s.port .regHold else s.port

/-- The CHECK record of a reading (R137). -/
def State.readingRecord : CycleRecord := (s.setReg (s.regRead r)).recordOf r (decide s.driveNotOn)

theorem regRead_of_hold {h : HoldReason} (hhold : s.holdReasonOf r = some h) : s.regRead r = s.reg.held h := by
  rw [State.regRead, hhold]

theorem regRead_of_valid (hhold : s.holdReasonOf r = none) : s.regRead r = s.regAfterValid (-(r.eOff.getD 0)) := by
  rw [State.regRead, hhold]

theorem portRead_of_hold {h : HoldReason} (hhold : s.holdReasonOf r = some h) :
    s.portRead r = if s.reachesHoldAlarm then latched s.port .regHold else s.port := by
  rw [State.portRead, hhold]
  exact if_congr (and_iff_right rfl) rfl rfl

theorem portRead_of_valid (hhold : s.holdReasonOf r = none) : s.portRead r = s.port := by
  rw [State.portRead, hhold]
  exact if_neg fun h => nomatch h.1

/-- A code handed and a record added change the drive, the record queue and the port. -/
theorem State.handCode_addRecord (q : CycleRecord) : s.handCode.addRecord q =
    { s with
      drive := if s.params.fixedMode then s.drive else s.drive.takeCode s.reg.code
      records := s.records.join q
      port := if s.params.recordThreshold ≤ (s.records.join q).queue.length then latched s.port .records else s.port } := by
  rw [State.addRecord_eq, State.handCode]
  cases s.params.fixedMode <;> rfl

/-- A hold changes the regulator, and the port when it reaches the alarm. -/
theorem State.held_latchIf (h : HoldReason) : (s.setReg (s.reg.held h)).latchIf s.reachesHoldAlarm .regHold =
    { s with reg := s.reg.held h, port := if s.reachesHoldAlarm then latched s.port .regHold else s.port } := by
  rw [State.latchIf]
  split_ifs <;> rfl

theorem latched_params (p : Port) (reason : Reason) : (latched p reason).params = p.params := by
  cases reason <;> rfl

theorem portRead_params : (s.portRead r).params = s.port.params := by
  unfold State.portRead
  split_ifs
  · exact latched_params s.port .regHold
  · rfl

/-- The state a reading leaves before its code and its record. -/
def State.read : State := { s with reg := s.regRead r, port := s.portRead r }

/-- A reading changes the regulator, the drive, the record queue and the port (R118). -/
theorem State.regulate_eq : s.regulate r =
    { s with
      reg := s.regRead r
      drive := if s.params.fixedMode then s.drive else s.drive.takeCode (s.regRead r).code
      records := s.records.join (s.readingRecord r)
      port :=
        if s.params.recordThreshold ≤ (s.records.join (s.readingRecord r)).queue.length then latched (s.portRead r) .records
        else s.portRead r } := by
  have hdone : s.regulate r = (s.read r).handCode.addRecord ((s.read r).recordOf r (decide s.driveNotOn)) := by
    unfold State.regulate State.read
    cases hhold : s.holdReasonOf r with
    | none => rw [regRead_of_valid s r hhold, portRead_of_valid s r hhold]; rfl
    | some h => dsimp only; rw [regRead_of_hold s r hhold, portRead_of_hold s r hhold, State.held_latchIf]
  have hparams : (s.read r).params = s.params := portRead_params s r
  have hrecord : (s.read r).recordOf r (decide s.driveNotOn) = s.readingRecord r := by
    rw [State.readingRecord, State.recordOf, State.recordOf, syncInfluence_of_params (s.read r) (s.setReg (s.regRead r)) rfl rfl rfl hparams]
    rfl
  rw [hdone, hrecord, State.handCode_addRecord, hparams]
  rfl

/-- A survey reduction changes the record queue and the port (R155). -/
theorem State.surveyReduction_eq : s.surveyReduction r =
    { s with
      records := s.records.join (s.recordOf r (decide (s.drive.state ≠ .on)))
      port :=
        if s.params.recordThreshold ≤ (s.records.join (s.recordOf r (decide (s.drive.state ≠ .on)))).queue.length then
          latched s.port .records
        else s.port } := s.addRecord_eq _

end RegulationPoint

/-! ### The peers a reading looks at (R94, R95, R122, R137) -/

section Influence

variable (s : State)

theorem mem_influencePeers {p : Peer} : p ∈ s.influencePeers ↔
    p ∈ s.peers ∧ (s.timer.tally + 65536 - p.lastHeard) % 65536 ≤ 2 ∧ span s p.chainage ≤ s.params.nat 41 := by
  simp only [State.influencePeers, List.mem_filter, decide_eq_true_eq]
  rfl

theorem unsyncPeer_iff : s.unsyncPeer ↔ ∃ p ∈ s.peers, (s.timer.tally + 65536 - p.lastHeard) % 65536 ≤ 2 ∧
    span s p.chainage ≤ s.params.nat 41 ∧ (¬ SynchronizedPeer s p ∨ p.plan ≠ s.timer.plan) := by
  constructor
  · rintro ⟨p, hp, hbad⟩
    obtain ⟨hmem, hfresh, hspan⟩ := (mem_influencePeers s).mp hp
    exact ⟨p, hmem, hfresh, hspan, hbad.imp_left fun h hsync => h hsync.2⟩
  · rintro ⟨p, hmem, hfresh, hspan, hbad⟩
    exact ⟨p, (mem_influencePeers s).mpr ⟨hmem, hfresh, hspan⟩, hbad.imp_left fun h hsync => h ⟨hmem, hsync⟩⟩

/-- The synchronized influence peers of a record (R137). -/
theorem syncInfluence_eq : s.syncInfluence =
    (s.peers.filter fun p => decide (SynchronizedPeer s p ∧ span s p.chainage ≤ s.params.nat 41)).length := by
  rw [State.syncInfluence, State.influencePeers, List.filter_filter]
  refine congrArg List.length (List.filter_congr fun p hp => ?_)
  rw [← Bool.decide_and]
  refine decide_eq_decide.mpr ⟨fun ⟨hsync, _, hspan⟩ => ⟨⟨hp, hsync⟩, hspan⟩, fun ⟨hsync, hspan⟩ => ?_⟩
  exact ⟨hsync.2, hsync.2.1, hspan⟩

/-- The record of a reduction with its fields as the statements name them (R137, R155). -/
theorem surveyRecord_eq (r : Reduction) : s.recordOf r (decide (s.drive.state ≠ .on)) = surveyRecord s r := by
  rw [State.recordOf, syncInfluence_eq]
  rfl

end Influence

/-! ### The hold reason (R122) -/

section HoldReasons

variable {s : State} {r : Reduction}

theorem holdReasonOf_eq (s : State) (r : Reduction) : s.holdReasonOf r =
    if s.reg.driveAtOnRef = false ∨ s.drive.state ≠ .on then some .drive
    else if r.abandoned = true then some .abandoned
    else if s.timer.plan = .survey then some .survey
    else if ∃ p ∈ s.peers, (s.timer.tally + 65536 - p.lastHeard) % 65536 ≤ 2 ∧
        span s p.chainage ≤ s.params.nat 41 ∧ (¬ SynchronizedPeer s p ∨ p.plan ≠ s.timer.plan) then some .unsyncPeer
    else if s.params.value 14 < r.spread ∨ r.short = true then some .stray
    else none := by
  rw [State.holdReasonOf]
  exact if_congr Iff.rfl rfl (if_congr Iff.rfl rfl (if_congr Iff.rfl rfl (if_congr (unsyncPeer_iff s) rfl rfl)))

/-- A hold brings the count to the alarm only by raising it (R126). -/
theorem reachesHoldAlarm_iff : s.reachesHoldAlarm ↔ s.reg.holdCount < 255 ∧ s.reg.holdCount + 1 = s.params.nat 44 := by
  have hcases : satSucc 255 s.reg.holdCount = if s.reg.holdCount < 255 then s.reg.holdCount + 1 else s.reg.holdCount := rfl
  unfold State.reachesHoldAlarm
  rw [hcases, Params.holdAlarm]
  split_ifs <;> omega

end HoldReasons

/-- Settles O29: the reason by the order of R122, and the four blocks that a reading changes. -/
theorem heldReading : Obligations.HeldReading := by
  intro s r h notOn hrecords hnotOn hreason
  have hhold : s.holdReasonOf r = some h := by
    rw [holdReasonOf_eq, ← hreason, hnotOn]
    simp only [decide_eq_true_eq]
  have hread : s.regRead r = s.reg.held h := regRead_of_hold s r hhold
  have hport : s.portRead r =
      if s.reg.holdCount < 255 ∧ s.reg.holdCount + 1 = s.params.nat 44 then latched s.port .regHold else s.port := by
    rw [portRead_of_hold s r hhold]
    exact if_congr reachesHoldAlarm_iff rfl rfl
  refine ⟨s.readingRecord r, _, rfl, ?_, ?_⟩
  · rw [State.readingRecord, State.recordOf, syncInfluence_eq, hread, hnotOn]
    rfl
  · rw [State.regulate_eq, hread, hport, recordJoined_eq, Records.join_eq hrecords.2.1, Drive.takeCode_eq]
    have hmode : (if s.params.fixedMode = true then s.drive else codeTaken s.drive (s.reg.held h).code) =
        if s.params.value 31 = 1 then s.drive else codeTaken s.drive s.reg.code := if_congr decide_eq_true_iff rfl rfl
    rw [hmode]
    rfl

/-! ### A valid reading (R127 to R134) -/

section ValidReadings

variable {s : State}

/-- The terms of the influence peers with a condition (R128). -/
theorem peerTerms_eq (s : State) (c : Condition) (term : Peer → Nat)
    (hterm : ∀ p, term p = p.amount.getD 0 * (s.params.nat 41 - span s p.chainage) / (2 * s.params.nat 41)) :
    s.peerTerms c = ((s.peers.filter fun p => decide ((s.timer.tally + 65536 - p.lastHeard) % 65536 ≤ 2 ∧
      span s p.chainage ≤ s.params.nat 41 ∧ p.condition = c)).map term).sum := by
  have hfun : term = fun p => p.term s.params := funext fun p => hterm p
  rw [State.peerTerms, State.influencePeers, List.filter_filter, hfun]
  refine congrArg (fun l => (List.map (fun p : Peer => p.term s.params) l).sum) (List.filter_congr fun p _ => ?_)
  rw [← Bool.decide_and]
  exact decide_eq_decide.mpr ⟨fun ⟨hc, hfresh, hspan⟩ => ⟨hfresh, hspan, hc⟩, fun ⟨hfresh, hspan, hc⟩ => ⟨hc, hfresh, hspan⟩⟩

/-- The change before its clamps (R130). -/
theorem rawDelta_eq {ps : Params} {e raw : Int}
    (h : if |e| ≤ ps.value 36 then raw = 0 else Rounded (e * ps.value 35) 16 raw) : ps.rawDelta e = raw := by
  have habs : ((e.natAbs : Int) ≤ ps.deadband) = (|e| ≤ ps.value 36) := by rw [Int.abs_eq_natAbs]; rfl
  simp only [Params.rawDelta, habs]
  split_ifs at h ⊢
  · exact h.symm
  · exact roundDiv_eq_of_rounded (by decide) h

/-- The change after the slew limit and VLIMIT (R130, R131). -/
theorem delta_eq {depth raw change : Int} {vlimit : Bool} (hraw : s.params.rawDelta (s.goal - depth) = raw)
    (hslew : 0 ≤ s.params.value 37) (hvlimit : vlimit = decide (0 < s.drive.backoff))
    (hchange : change = if vlimit = true then min 0 (max (-s.params.value 37) (min (s.params.value 37) raw))
      else max (-s.params.value 37) (min (s.params.value 37) raw)) : s.delta depth = change := by
  have hclamp : clamp (-s.params.value 37) (s.params.value 37) raw = max (-s.params.value 37) (min (s.params.value 37) raw) :=
    clamp_eq (by omega) raw
  rw [State.delta, hraw, hchange, hvlimit]
  simp only [decide_eq_true_eq, Params.slew, hclamp, min_comm]

/-- The goal within its bounds (R129). -/
theorem goal_eq {goal : Int} {assist relief : Nat} (hassist : s.peerTerms .short = assist)
    (hrelief : s.peerTerms .excess = relief) (hbounds : s.params.value 33 ≤ s.params.value 34)
    (hgoal : goal = max (s.params.value 33) (min (s.params.value 34)
      (s.params.value 32 + min (assist : Int) (s.params.value 42) - min (relief : Int) (s.params.value 43)))) : s.goal = goal := by
  rw [State.goal, hassist, hrelief, hgoal]
  exact clamp_eq hbounds _

/-- No reason of R122 applies to a reading with the drive on, its pair run to its end, every influence peer in step and its spread within
the limit. -/
theorem holdReasonOf_of_valid {r : Reduction} (hon : s.reg.driveAtOnRef = true) (hdrive : s.drive.state = .on)
    (hran : r.abandoned = false) (hplan : s.timer.plan = .steady)
    (hpeers : ∀ p ∈ s.peers, (s.timer.tally + 65536 - p.lastHeard) % 65536 ≤ 2 → span s p.chainage ≤ s.params.nat 41 →
      SynchronizedPeer s p ∧ p.plan = .steady) (hspread : r.spread ≤ s.params.value 14) (hfull : r.short = false) :
    s.holdReasonOf r = none := by
  have hstep : ¬ ∃ p ∈ s.peers, (s.timer.tally + 65536 - p.lastHeard) % 65536 ≤ 2 ∧
      span s p.chainage ≤ s.params.nat 41 ∧ (¬ SynchronizedPeer s p ∨ p.plan ≠ s.timer.plan) := by
    rintro ⟨p, hmem, hfresh, hspan, hbad⟩
    obtain ⟨hsync, hsteady⟩ := hpeers p hmem hfresh hspan
    exact hbad.elim (fun h => h hsync) fun h => h (hsteady.trans hplan.symm)
  rw [holdReasonOf_eq, if_neg (by simp [hon, hdrive]), if_neg (by simp [hran]), if_neg (by simp [hplan]), if_neg hstep,
    if_neg (by simp [hfull, hspread])]

end ValidReadings

/-- Settles O30: the goal, the change and the setpoint one after another, and the four blocks that a reading changes. -/
theorem validReading : Obligations.ValidReading := by
  intro s r e depth goal raw change iNew assist relief code fixed vlimit term cond amount hrecords hon hdrive hran hplan hpeers
    hspread hfull heOff hdepth hfixed hvlimit hterm hassist hrelief hbounds hslew hsetpoints hgoal hraw hchange hiNew hscale
    hiNewLow hiNewHigh hcodeLow hcodeHigh hjudged
  have hhold := holdReasonOf_of_valid hon hdrive hran hplan hpeers hspread hfull
  have hgoalEq : s.goal = goal :=
    goal_eq ((peerTerms_eq s .short term hterm).trans hassist.symm) ((peerTerms_eq s .excess term hterm).trans hrelief.symm)
      hbounds hgoal
  have hdelta : s.delta depth = change := delta_eq (by rw [hgoalEq]; exact rawDelta_eq hraw) hslew hvlimit hchange
  have hmode : s.params.fixedMode = fixed := hfixed.symm
  have hafter : s.setpointAfter depth = iNew := by
    rw [State.setpointAfter, hmode, hiNew, State.newSetpoint, hdelta]
    exact if_congr Iff.rfl rfl (clamp_eq hsetpoints _)
  have hfs : (s.params.nat 21 : Int) = s.params.value 21 := Int.toNat_of_nonneg (by
    have : 0 < (s.params.value 21).toNat := hscale
    omega)
  have hcode : s.params.codeOf iNew = code := by
    rw [hfs] at hiNewHigh hcodeLow hcodeHigh
    exact Params.codeOf_eq (by omega) hiNewHigh hcodeLow hcodeHigh
  have hjudge : s.params.judge depth iNew (decide s.drive.vlimit) = (cond, amount) := by
    have hv : decide s.drive.vlimit = vlimit := hvlimit.symm
    rw [Params.judge, hv, hmode, hjudged]
    rfl
  have hread : s.regRead r =
      { s.reg with
        iSet := iNew
        code := if fixed = true then s.reg.code else code
        condition := cond
        amount := amount
        holdReason := none
        holdCount := 0
        lastDepth := some depth } := by
    rw [regRead_of_valid s r hhold, heOff, Option.getD_some, ← hdepth, State.regAfterValid, hafter, hjudge, hcode, hmode]
  have hport : s.portRead r = s.port := portRead_of_valid s r hhold
  have hnotOn : decide s.driveNotOn = false := by
    simp [State.driveNotOn, hon, hdrive]
  refine ⟨s.readingRecord r, _, rfl, ?_, ?_⟩
  · rw [State.readingRecord, State.recordOf, syncInfluence_eq, hread, hnotOn, heOff, hran, hfull, hvlimit]
    rfl
  · rw [State.regulate_eq, hread, hport, recordJoined_eq, Records.join_eq hrecords.2.1, Drive.takeCode_eq, hmode]
    cases fixed <;> rfl

end Sys2Proof.Machine

/-! # Window pairs (O11 to O13)

What a window event does to the slot in progress, what taking a bank does to the banks, and the pair of a plan at a line time.
-/

namespace Sys2Proof.Machine

open Sys2Proof.Safety

/-! ### The slot of the tick (R21, log 11) -/

section WindowChange

variable (s : State)

/-- The tags of a slot that starts as slot 0 of the window state. -/
def State.firstTag : Tag := (s.setAcq { s.acq with seq := 0 }).slotTag

theorem slotStartsNow_iff : s.slotStartsNow ↔ SlotStarts s := by
  rw [State.slotStartsNow, SlotStarts, Option.isSome_iff_ne_none]

variable {s}

/-- A change of the window state tags a slot that starts at this tick anew, as slot 0. -/
theorem windowChanged_of_starts (h : SlotStarts s) :
    s.windowChanged = { s with acq := { s.acq with seq := 1, slot := some s.firstTag } } := by
  have hnow : (s.setAcq { s.acq with seq := 0 }).slotStartsNow := (slotStartsNow_iff s).mpr h
  rw [State.windowChanged, if_pos hnow]
  rfl

/-- A change of the window state at which no slot starts empties the sequence count. -/
theorem windowChanged_of_not (h : ¬ SlotStarts s) : s.windowChanged = { s with acq := { s.acq with seq := 0 } } := by
  have hnow : ¬ (s.setAcq { s.acq with seq := 0 }).slotStartsNow := fun hs => h ((slotStartsNow_iff s).mp hs)
  rw [State.windowChanged, if_neg hnow]
  rfl

variable (s)

/-- A change of the window state changes the sequence count and the slot alone. -/
theorem windowChanged_eq : s.windowChanged =
    { s with
      acq :=
        { s.acq with
          seq := if SlotStarts s then 1 else 0
          slot := if SlotStarts s then some s.firstTag else s.acq.slot } } := by
  by_cases h : SlotStarts s
  · rw [windowChanged_of_starts h, if_pos h, if_pos h]
  · rw [windowChanged_of_not h, if_neg h, if_neg h]

theorem slotStarts_iff_not : ¬ SlotStarts s ↔ s.acq.slot = none ∨ s.acq.slotStart ≠ s.timer.elapsed := by
  rw [SlotStarts, not_and_or, not_not]

end WindowChange

/-! ### Taking a bank (R34) -/

section Taking

variable (a : Acq) (w : PairWork)

/-- A take fills the bank that may be taken, or is pending. -/
theorem Acq.take_eq : a.take w =
    { a with
      bankA := if a.takeable = some .a then w.pair.takenBank else a.bankA
      bankB := if a.takeable = some .b then w.pair.takenBank else a.bankB
      current := some { w with bank := a.takeable }
      pendingTake := a.takeable.isNone } := by
  unfold Acq.take
  cases h : a.takeable with
  | none => rfl
  | some id => cases id <;> rfl

variable {a}

theorem Acq.takeable_of_freeA (h : a.bankA.state = .free) : a.takeable = some .a := if_pos h

theorem Acq.takeable_of_freeB (hA : a.bankA.state ≠ .free) (hB : a.bankB.state = .free) : a.takeable = some .b :=
  (if_neg hA).trans (if_pos hB)

/-- Of two SEALED banks the one sealed longer ago. -/
theorem Acq.takeable_of_sealed (hA : a.bankA.state = .sealed) (hB : a.bankB.state = .sealed) :
    a.takeable = some (if a.newer = some .a then .b else .a) := by
  simp [Acq.takeable, hA, hB]

theorem Acq.takeable_of_sealedA (hA : a.bankA.state = .sealed) (hB : a.bankB.state = .held ∨ a.bankB.state = .filling) :
    a.takeable = some .a := by
  rcases hB with hB | hB <;> simp [Acq.takeable, hA, hB]

theorem Acq.takeable_of_sealedB (hB : a.bankB.state = .sealed) (hA : a.bankA.state = .held ∨ a.bankA.state = .filling) :
    a.takeable = some .b := by
  rcases hA with hA | hA <;> simp [Acq.takeable, hA, hB]

theorem Acq.takeable_none (hA : a.bankA.state = .held ∨ a.bankA.state = .filling)
    (hB : a.bankB.state = .held ∨ a.bankB.state = .filling) : a.takeable = none := by
  rcases hA with hA | hA <;> rcases hB with hB | hB <;> simp [Acq.takeable, hA, hB]

end Taking

/-! ### The pair of the executed plan (R9, R11, R12) -/

section PairHere

variable {s : State} {p : Pair}

theorem shifted_zero (x : Int) : shifted 0 x = dayMod x := by
  rw [shifted_eq, Nat.cast_zero, zero_add]

theorem pairHere_of_notch (hplan : s.timer.plan = .steady) (hnotch : s.timer.lineTime / 100000 % s.params.nat 6 = 0) :
    s.pairHere = some (s.params.notchPlan.pair (s.timer.lineTime / 100000) s.timer.opened) := by
  rw [State.pairHere, hplan]
  exact if_pos hnotch

theorem pairHere_of_no_notch (hplan : s.timer.plan = .steady) (hnotch : ¬ s.timer.lineTime / 100000 % s.params.nat 6 = 0) :
    s.pairHere = none := by
  rw [State.pairHere, hplan]
  exact if_neg hnotch

theorem pairHere_of_cycle {e : SurveyEntry} {v : SurveyParams} (hplan : s.timer.plan = .survey)
    (he : s.survey.adoptedEntry = some e) (hv : e.params = some v) :
    s.pairHere = some (v.pair e.id (s.params.nat 13) (shifted s.timer.lineTime (-v.start) / v.cycle) s.timer.opened) := by
  rw [State.pairHere, hplan]
  simp only [he, hv]
  rfl

/-- The positions of a check notch from its off start (R9). -/
theorem notchPlan_pair_eq {ps : Params} {p : Pair} {off : Int} (hkind : p.kind = .check) (hsurvey : p.survey = none)
    (hoff : off = p.index * 100000 + ps.nat 7 + ditherAt ((ditherOfCode (ps.nat 8)).getD .noDither) p.index (ps.nat 9))
    (honRef : p.onRefStart = shifted 0 (off - ps.nat 13)) (hoffStart : p.offStart = shifted 0 off)
    (hoffEnd : p.offEnd = shifted 0 (off + ps.nat 10)) : p = ps.notchPlan.pair p.index p.serial := by
  have hplan : (ps.notchPlan.offStart p.index : Int) = off := by
    rw [hoff, notchPlan_offStart]
    push_cast
    rfl
  rw [NotchPlan.pair, hplan]
  rw [shifted_zero] at honRef hoffStart hoffEnd
  obtain ⟨kind, index, survey, onRefStart, offStart, offEnd, serial⟩ := p
  subst hkind hsurvey honRef hoffStart hoffEnd
  rfl

/-- The positions of a survey cycle from its off start (R11). -/
theorem surveyParams_pair_eq {v : SurveyParams} {id : SurveyId} {wOn : Nat} {p : Pair} {off : Int} (hkind : p.kind = .survey)
    (hsurvey : p.survey = some id)
    (hoff : off = v.start + p.index * v.cycle + v.cycle - v.offLen - ditherAt v.dither p.index v.ditherSpan)
    (honRef : p.onRefStart = shifted 0 (off - min wOn (v.cycle - v.offLen - v.ditherSpan - 1000)))
    (hoffStart : p.offStart = shifted 0 off) (hoffEnd : p.offEnd = shifted 0 (off + v.offLen)) :
    p = v.pair id wOn p.index p.serial := by
  have hplan : v.offStart p.index = off := by rw [hoff, surveyParams_offStart]
  rw [SurveyParams.pair, hplan, SurveyParams.onRefLen]
  rw [shifted_zero] at honRef hoffStart hoffEnd
  obtain ⟨kind, index, survey, onRefStart, offStart, offEnd, serial⟩ := p
  subst hkind hsurvey honRef hoffStart hoffEnd
  push_cast
  rfl

/-- The pair of the executed plan at line time is the pair here. -/
theorem pairHere_of_pairAt (h : PairAt s s.timer.plan s.timer.lineTime p) : s.pairHere = some p := by
  obtain ⟨hserial, off, ⟨hplan, hnotch, hkind, hindex, hsurvey, hoff, honRef, hoffStart, hoffEnd⟩ |
    ⟨e, v, hplan, he, hv, hkind, hindex, hsurvey, hoff, honRef, hoffStart, hoffEnd⟩⟩ := h
  · rw [pairHere_of_notch hplan hnotch, ← hindex, ← hserial, ← notchPlan_pair_eq hkind hsurvey hoff honRef hoffStart hoffEnd]
  · rw [pairHere_of_cycle hplan he hv, ← hindex, ← hserial, ← surveyParams_pair_eq hkind hsurvey hoff honRef hoffStart hoffEnd]

/-- The pair here is the pair of the executed plan at line time. -/
theorem pairAt_of_pairHere (h : s.pairHere = some p) : PairAt s s.timer.plan s.timer.lineTime p := by
  cases hplan : s.timer.plan with
  | steady =>
    by_cases hnotch : s.timer.lineTime / 100000 % s.params.nat 6 = 0
    · rw [pairHere_of_notch hplan hnotch, Option.some.injEq] at h
      subst h
      refine ⟨rfl, _, .inl ⟨rfl, hnotch, rfl, rfl, rfl, rfl, ?_, ?_, ?_⟩⟩ <;>
        simp only [shifted_zero, NotchPlan.pair, notchPlan_offStart] <;> push_cast <;> rfl
    · rw [pairHere_of_no_notch hplan hnotch] at h
      cases h
  | survey =>
    cases he : s.survey.adoptedEntry with
    | none => simp [State.pairHere, hplan, he] at h
    | some e =>
      cases hv : e.params with
      | none => simp [State.pairHere, hplan, he, hv] at h
      | some v =>
        rw [pairHere_of_cycle hplan he hv, Option.some.injEq] at h
        subst h
        refine ⟨rfl, _, .inr ⟨e, v, rfl, he, hv, rfl, rfl, rfl, rfl, ?_, ?_, ?_⟩⟩ <;>
          simp only [shifted_zero, SurveyParams.pair, surveyParams_offStart, SurveyParams.onRefLen]

end PairHere

/-! ### The on-reference start (R6, R7, R26, R34, R119) -/

section Opening

variable (s : State) (p : Pair)

/-- The pair is in progress and has its bank, before the slot of the tick. -/
def State.pairOpened : State :=
  { s with
    timer := { s.timer with pair := some p, window := .onReference, opened := s.timer.opened + 1 }
    acq := s.acq.openPair p }

theorem slotStarts_pairOpened : SlotStarts (s.pairOpened p) ↔ SlotStarts s := by
  rw [State.pairOpened, Acq.openPair, Acq.take_eq]

theorem firstTag_pairOpened : (s.pairOpened p).firstTag =
    { channel := .psp, role := .onReference, pair := some p.serial, offset := 0, switchClosed := s.drive.switchClosed, seq := 0 } :=
  rfl

/-- A pair that opens changes the line timer, the acquisition unit and, for a check pair, the noted drive state. -/
theorem openPair_eq : s.openPair p =
    { s with
      timer := { s.timer with pair := some p, window := .onReference, opened := s.timer.opened + 1 }
      acq :=
        { s.acq.openPair p with
          seq := if SlotStarts s then 1 else 0
          slot :=
            if SlotStarts s then
              some
                { channel := .psp, role := .onReference, pair := some p.serial, offset := 0
                  switchClosed := s.drive.switchClosed, seq := 0 }
            else s.acq.slot }
      reg := if p.kind = .check then { s.reg with driveAtOnRef := decide (s.drive.state = .on) } else s.reg } := by
  have hopened : s.openPair p =
      if p.kind = .check then (s.pairOpened p).windowChanged.noteDrive else (s.pairOpened p).windowChanged := rfl
  rw [hopened]
  by_cases h : SlotStarts s
  · rw [windowChanged_of_starts ((slotStarts_pairOpened s p).mpr h), if_pos h, if_pos h, firstTag_pairOpened]
    split_ifs <;> rfl
  · have hnot : ¬ SlotStarts (s.pairOpened p) := fun hs => h ((slotStarts_pairOpened s p).mp hs)
    have hslot : (s.acq.openPair p).slot = s.acq.slot := by rw [Acq.openPair, Acq.take_eq]
    rw [windowChanged_of_not hnot, if_neg h, if_neg h, ← hslot]
    split_ifs <;> rfl

theorem openHere_eq (h : s.pairHere = some p) : s.openHere = s.openPair p := by
  simp only [State.openHere, h]

end Opening

/-- Settles O11: the pair here opens, and takes the bank that its case of R34 names. -/
theorem onReferenceStartOpensPair : Obligations.OnReferenceStartOpensPair := by
  intro s p off hpart hpair htiming hcounted hcurrent hplaced honRef hserial
  have hhere : s.pairHere = some p := pairHere_of_pairAt ⟨hserial, off, hplaced⟩
  have hdue : s.onRefDue := ⟨hpart, hpair, htiming, hcounted, hcurrent, p, hhere, honRef⟩
  have hopen := openPair_eq s p
  rw [Acq.openPair, Acq.take_eq] at hopen
  refine ⟨{ PairWork.opened p with bank := s.acq.takeable }, s.openPair p, ?_, by rw [hopen], by rw [hopen], by rw [hopen], rfl, rfl,
    rfl, rfl, fun hA => ?_, fun hA hB => ?_, fun hA hB => ⟨fun hnewer => ?_, fun hnewer => ?_⟩, fun hA hB => ?_, fun hB hA => ?_, ?_,
    fun hA hB => ?_, fun hslot => ?_, fun hslot hstart => ?_, by rw [hopen]⟩
  · rw [← openHere_eq s p hhere]
    exact event_of_due hdue s _
  · simp [hopen, Acq.takeable_of_freeA hA, PairWork.opened]
  · simp [hopen, Acq.takeable_of_freeB hA hB, PairWork.opened]
  · simp [hopen, Acq.takeable_of_sealed hA hB, hnewer, PairWork.opened]
  · simp [hopen, Acq.takeable_of_sealed hA hB, hnewer, PairWork.opened]
  · simp [hopen, Acq.takeable_of_sealedA hA hB, PairWork.opened]
  · simp [hopen, Acq.takeable_of_sealedB hB hA, PairWork.opened]
  · simp [hopen]
  · simp [hopen, Acq.takeable_none hA hB]
  · have hnot := (slotStarts_iff_not s).mpr hslot
    simp only [hopen, if_neg hnot, and_self]
  · have hstarts : SlotStarts s := ⟨hslot, hstart⟩
    simp only [hopen, if_pos hstarts, and_self]

/-! ### The off start and the off end (R7, R13, R41) -/

section Off

variable {s : State} {p : Pair}

theorem markOffStart_eq (hpair : s.timer.pair = some p) : s.timer.markOffStart =
    { s.timer with
      markLow := if p.kind = .survey then true else s.timer.markLow
      markStart := if p.kind = .survey then s.timer.elapsed else s.timer.markStart } := by
  unfold Timer.markOffStart
  split
  · next q hq =>
    obtain rfl : q = p := Option.some.inj (hq.symm.trans hpair)
    split_ifs <;> rfl
  · next hnone => rw [hnone] at hpair; cases hpair

/-- The slots that had started in the on-reference window at the off start (R35). -/
theorem startedSlots_eq (s : State) :
    (match s.acq.slot with | some t => if s.slotStartsNow then t.seq else s.acq.seq | none => s.acq.seq) =
      if s.acq.slotStart = s.timer.elapsed then (s.acq.slot.map fun x => x.seq).getD s.acq.seq else s.acq.seq := by
  split
  · next t ht =>
    have hseq : (s.acq.slot.map fun x => x.seq).getD s.acq.seq = t.seq := by rw [ht]; rfl
    rw [hseq]
    exact if_congr (by simp [State.slotStartsNow, ht]) rfl rfl
  · next hnone =>
    have hseq : (s.acq.slot.map fun x => x.seq).getD s.acq.seq = s.acq.seq := by rw [hnone]; rfl
    rw [hseq, ite_self]

/-- The acquisition unit at the off start of the pair in progress. -/
def Acq.offStarted (a : Acq) (now : Nat) : Acq :=
  { a with
    current := a.current.map fun w =>
      { w with
        offSet := { total := 0, count := 0, low := 0, high := 0 }
        offStart := now
        onSlots := if a.slotStart = now then (a.slot.map fun x => x.seq).getD a.seq else a.seq } }

theorem State.markOffStart_eq (s : State) : s.markOffStart = { s with acq := s.acq.offStarted s.timer.elapsed } := by
  unfold State.markOffStart
  split
  · next hnone =>
    have hsame : s.acq.offStarted s.timer.elapsed = s.acq := by rw [Acq.offStarted, hnone, Option.map_none, ← hnone]
    rw [hsame]
  · next w hw =>
    rw [Acq.offStarted, hw, Option.map_some, ← startedSlots_eq]
    rfl

end Off

/-- Settles O12: the window state, SWITCH, MARK and the off sums, and then the slot of the tick. -/
theorem offStartOpensSwitch : Obligations.OffStartOpensSwitch := by
  intro s p hwindow hpair hreached
  have hdue : s.offStartDue := ⟨hwindow, p, hpair, hreached⟩
  have hswitch : switchFor s.drive.state .off = false := by simp [switchFor]
  have hbegin : s.beginOff = State.windowChanged
      { s with
        timer := { s.timer.markOffStart with window := .off }
        drive := { s.drive with switchClosed := false }
        acq := s.acq.offStarted s.timer.elapsed } := by
    rw [← hswitch, State.beginOff, State.markOffStart_eq, markOffStart_eq hpair]
    rfl
  rw [windowChanged_eq, markOffStart_eq hpair] at hbegin
  refine ⟨s.beginOff, event_of_due hdue s _, by rw [hbegin], by rw [hbegin], fun w hw => ?_, fun hnone => ?_, fun hslot => ?_,
    fun hslot hstart => ?_, by rw [hbegin]; rfl⟩
  · simp [hbegin, Acq.offStarted, hw]
  · simp [hbegin, Acq.offStarted, hnone]
  · rw [hbegin]
    exact ⟨if_neg ((slotStarts_iff_not s).mpr hslot), if_neg ((slotStarts_iff_not s).mpr hslot)⟩
  · rw [hbegin]
    refine ⟨if_pos ⟨hslot, hstart⟩, (if_pos ⟨hslot, hstart⟩).trans ?_⟩
    have hoffset (w : PairWork) : ticksSince s.acq.slotStart s.timer.elapsed = 0 := by
      rw [hstart, ticksSince, Nat.add_sub_cancel_left]
      rfl
    cases hcurrent : s.acq.current with
    | none => simp [State.firstTag, State.slotTag, Acq.offStarted, hcurrent, channelFor, hpair]
    | some w => simp [State.firstTag, State.slotTag, Acq.offStarted, hcurrent, channelFor, hpair, hoffset w]

/-- Settles O13: the window state, SWITCH and the flush, and then the slot of the tick. -/
theorem offEndEndsPair : Obligations.OffEndEndsPair := by
  intro s p hwindow hpair hreached
  have hdue : s.offEndDue := ⟨hwindow, p, hpair, hreached⟩
  have hswitch : switchFor s.drive.state .noWindow = decide (s.drive.state = .ramping ∨ s.drive.state = .on) := by simp [switchFor]
  have hend : s.endOff = State.windowChanged
      { s with
        timer := { s.timer with pair := none, window := .noWindow }
        drive := { s.drive with switchClosed := decide (s.drive.state = .ramping ∨ s.drive.state = .on) }
        acq := { s.acq with current := none, flushing := s.acq.current } } := by
    rw [← hswitch]
    rfl
  rw [windowChanged_eq] at hend
  refine ⟨s.endOff, event_of_due hdue s _, by rw [hend], fun hslot => ?_, fun hslot hstart => ?_⟩
  · rw [hend]
    exact ⟨if_neg ((slotStarts_iff_not s).mpr hslot), if_neg ((slotStarts_iff_not s).mpr hslot)⟩
  · rw [hend]
    exact ⟨if_pos ⟨hslot, hstart⟩, if_pos ⟨hslot, hstart⟩⟩

end Sys2Proof.Machine

/-! # What the drive controller and the regulator make of a sample (for O17 to O21)

A delivered sample changes the drive and the port by what the drive, the port and the line timer hold; a reduction handed over changes
four blocks by what they and the peers hold. Neither reads the acquisition unit.
-/

namespace Sys2Proof.Machine

open Sys2Proof.Safety

/-! ### A protection sample and a stuck-switch report read the drive, the port and the line timer -/

section Alike

/-- The drive and the port are the same in both states. -/
abbrev SameOutputs (x y : State) : Prop := x.drive = y.drive ∧ x.port = y.port

/-- What the drive controller reads is the same in both states. -/
abbrev SameInputs (x y : State) : Prop := SameOutputs x y ∧ x.timer = y.timer

variable {x y : State}

theorem afterTrip_alike (h : SameInputs x y) (cause : TripCause) : SameOutputs (afterTrip x cause) (afterTrip y cause) := by
  obtain ⟨⟨hdrive, hport⟩, htimer⟩ := h
  have hparams : x.params = y.params := congrArg Port.params hport
  unfold afterTrip
  rw [hdrive, hport, htimer, hparams]
  split_ifs <;> exact ⟨rfl, rfl⟩

theorem outiSample_alike (h : SameInputs x y) (hon : x.drive.state = .ramping ∨ x.drive.state = .on) (v : Int) :
    SameOutputs (x.protectionSample .outi v) (y.protectionSample .outi v) := by
  have htrip := afterTrip_alike h
  obtain ⟨⟨hdrive, hport⟩, -⟩ := h
  have hparams : x.params = y.params := congrArg Port.params hport
  obtain ⟨run, hrun⟩ : ∃ run, run = if y.params.value 23 < v then y.drive.overRun + 1 else 0 := ⟨_, rfl⟩
  rw [(currentFilters x v run (hdrive ▸ hparams ▸ hrun)).1 hon, (currentFilters y v run hrun).1 (hdrive ▸ hon), hdrive, hparams]
  split_ifs
  · exact htrip .overcurrent
  · exact htrip .openCircuit
  all_goals exact ⟨rfl, hport⟩

theorem outvSample_alike (h : SameInputs x y) (hon : x.drive.state = .ramping ∨ x.drive.state = .on) (v : Int) :
    SameOutputs (x.protectionSample .outv v) (y.protectionSample .outv v) := by
  obtain ⟨⟨hdrive, hport⟩, -⟩ := h
  have hparams : x.params = y.params := congrArg Port.params hport
  rcases hon with hramp | hon
  · rw [(voltageBackoff x v _ rfl).2 hramp, (voltageBackoff y v _ rfl).2 (hdrive ▸ hramp), hdrive, hparams]
    exact ⟨rfl, hport⟩
  · rw [(voltageBackoff x v _ rfl).1 hon, (voltageBackoff y v _ rfl).1 (hdrive ▸ hon), hdrive, hparams]
    exact ⟨rfl, hport⟩

theorem protectionSample_psp (s : State) (v : Int) : s.protectionSample .psp v = s := ite_self s

theorem protectionSample_alike (h : SameInputs x y) (ch : Channel) (v : Int) :
    SameOutputs (x.protectionSample ch v) (y.protectionSample ch v) := by
  by_cases hon : x.drive.state = .ramping ∨ x.drive.state = .on
  · cases ch with
    | psp => rw [protectionSample_psp, protectionSample_psp]; exact h.1
    | outi => exact outiSample_alike h hon v
    | outv => exact outvSample_alike h hon v
  · have hx : x.drive.state = .halted ∨ x.drive.state = .tripped ∨ x.drive.state = .lockout := by
      cases hstate : x.drive.state <;> simp_all
    rw [protectionSample_of_rest hx, protectionSample_of_rest (h.1.1 ▸ hx)]
    exact h.1

theorem stuckSwitch_alike (h : SameInputs x y) : SameOutputs x.stuckSwitch y.stuckSwitch := by
  obtain ⟨⟨hdrive, hport⟩, -⟩ := h
  obtain ⟨hhalted, hdriven, hlocked⟩ := stuckSwitchReport x
  obtain ⟨hhalted', hdriven', hlocked'⟩ := stuckSwitchReport y
  rw [hdrive] at hhalted hdriven hlocked
  cases hstate : y.drive.state with
  | halted => rw [hhalted hstate, hhalted' hstate]; exact ⟨hdrive, hport⟩
  | ramping => rw [hdriven (.inl hstate), hdriven' (.inl hstate), hport]; exact ⟨rfl, rfl⟩
  | on => rw [hdriven (.inr (.inl hstate)), hdriven' (.inr (.inl hstate)), hport]; exact ⟨rfl, rfl⟩
  | tripped => rw [hdriven (.inr (.inr hstate)), hdriven' (.inr (.inr hstate)), hport]; exact ⟨rfl, rfl⟩
  | lockout => rw [hlocked hstate, hlocked' hstate]; exact ⟨rfl, hport⟩

end Alike

/-! ### A delivered sample at the drive controller (R31, R32) -/

section Sampled

variable (s : State) (c : Conversion)

/-- The value of a conversion (R22). -/
abbrev State.valueOf : Int := s.params.calibrate c.tag.channel c.code

/-- A switch-verify sample above the switch-leak limit (R32). -/
abbrev State.Stuck : Prop :=
  c.tag.channel = .outi ∧ c.tag.role = .off ∧ c.tag.seq % 8 = 7 ∧ 20 ≤ c.tag.offset ∧ s.params.value 30 < s.valueOf c

/-- The part after the drive controller has met a sample, as a protection sample and as a switch-verify sample. -/
def State.sampled : State :=
  let x := if c.tag.channel ≠ .psp ∧ c.tag.switchClosed = true then s.protectionSample c.tag.channel (s.valueOf c) else s
  if s.Stuck c then x.stuckSwitch else x

/-- A state that differs from another in its drive and its port alone. -/
theorem State.eq_of_outputs {x y : State} (h : y.timer = x.timer ∧ y.align = x.align ∧ y.acq = x.acq ∧ y.reg = x.reg ∧
    y.link = x.link ∧ y.peers = x.peers ∧ y.survey = x.survey ∧ y.records = x.records ∧ y.lines = x.lines ∧ y.draws = x.draws ∧
    y.pending = x.pending) : y = { x with drive := y.drive, port := y.port } := by
  obtain ⟨htimer, halign, hacq, hreg, hlink, hpeers, hsurvey, hrecords, hlines, hdraws, hpending⟩ := h
  rw [← htimer, ← halign, ← hacq, ← hreg, ← hlink, ← hpeers, ← hsurvey, ← hrecords, ← hlines, ← hdraws, ← hpending]

/-- A sample met changes the drive and the port alone. -/
theorem sampled_eq : s.sampled c = { s with drive := (s.sampled c).drive, port := (s.sampled c).port } := by
  refine State.eq_of_outputs ?_
  unfold State.sampled
  split_ifs <;> simp

theorem sampled_params : (s.sampled c).params = s.params := by
  unfold State.sampled State.params
  split_ifs <;> simp

theorem sampled_alike {x y : State} (h : SameInputs x y) : SameOutputs (x.sampled c) (y.sampled c) := by
  have hparams : x.params = y.params := congrArg Port.params h.1.2
  have hmet : SameInputs
      (if c.tag.channel ≠ .psp ∧ c.tag.switchClosed = true then x.protectionSample c.tag.channel (x.valueOf c) else x)
      (if c.tag.channel ≠ .psp ∧ c.tag.switchClosed = true then y.protectionSample c.tag.channel (y.valueOf c) else y) := by
    unfold State.valueOf
    rw [hparams]
    split_ifs
    · exact ⟨protectionSample_alike h _ _, by simpa using h.2⟩
    · exact h
  unfold State.sampled State.Stuck State.valueOf at *
  rw [hparams] at hmet ⊢
  by_cases hstuck : c.tag.channel = .outi ∧ c.tag.role = .off ∧ c.tag.seq % 8 = 7 ∧ 20 ≤ c.tag.offset ∧
      y.params.value 30 < y.params.calibrate c.tag.channel c.code
  · simp only [if_pos hstuck]
    exact stuckSwitch_alike hmet
  · simp only [if_neg hstuck]
    exact hmet.1

/-- A delivery is the sample met, and its credit at the acquisition unit (R22, R25). -/
theorem deliver_eq : s.deliver c = { s.sampled c with acq := s.acq.credit s.params c.tag (s.valueOf c) } := by
  have hstart : SameInputs (s.setAcq (s.acq.credit s.params c.tag (s.valueOf c))) s := ⟨⟨rfl, rfl⟩, rfl⟩
  have hdeliver : s.deliver c = (s.setAcq (s.acq.credit s.params c.tag (s.valueOf c))).sampled c := by
    have hparams : (if c.tag.isProtection then
        (s.setAcq (s.acq.credit s.params c.tag (s.valueOf c))).protectionSample c.tag.channel (s.valueOf c)
      else s.setAcq (s.acq.credit s.params c.tag (s.valueOf c))).params = s.params := by
      unfold State.params
      split_ifs <;> simp
    exact if_congr (by rw [Tag.reportsStuck, hparams]; exact Iff.rfl) rfl rfl
  obtain ⟨hdrive, hport⟩ := sampled_alike c hstart
  rw [hdeliver, sampled_eq, hdrive, hport, sampled_eq s c]
  rfl

end Sampled

/-! ### A reduction handed over (R29) -/

section HandOver

variable (x : State) (r : Reduction)

/-- A reduction handed over changes the regulator, the drive, the record queue and the port. -/
theorem handOver_eq : x.handOver r =
    { x with
      reg := (x.handOver r).reg, drive := (x.handOver r).drive, records := (x.handOver r).records
      port := (x.handOver r).port } := by
  unfold State.handOver
  cases r.kind with
  | check => dsimp only; rw [State.regulate_eq]
  | survey => dsimp only; rw [State.surveyReduction_eq]

theorem handOver_if : x.handOver r = if r.kind = .check then x.regulate r else x.surveyReduction r := by
  unfold State.handOver
  cases r.kind <;> rfl

/-- What a reduction handed over leaves does not depend on the acquisition unit, the link, the waiting events of the line timer or the
draws. -/
theorem handOver_elsewhere (nextEpochEnd txPoint : Option Nat) (work : EpochWork) (counted : Bool) (a : Acq) (l : Link) (n : Nat) :
    ({ x with
        timer := { x.timer with nextEpochEnd := nextEpochEnd, txPoint := txPoint, epochWork := work, counted := counted }
        acq := a, link := l, draws := n } : State).handOver r =
      { x.handOver r with
        timer := { x.timer with nextEpochEnd := nextEpochEnd, txPoint := txPoint, epochWork := work, counted := counted }
        acq := a, link := l, draws := n } := by
  unfold State.handOver
  cases r.kind with
  | check => dsimp only; rw [State.regulate_eq, State.regulate_eq]; rfl
  | survey => dsimp only; rw [State.surveyReduction_eq, State.surveyReduction_eq]; rfl

end HandOver

end Sys2Proof.Machine

/-! # Conversion slots (O17 to O20)

A slot's end as its delivery, its completions and the next slot; then what a sample is credited to, by its role.
-/

namespace Sys2Proof.Machine

open Sys2Proof.Safety

/-! ### A slot's end (R20 to R22) -/

section SlotEnd

variable {s : State} {ended : Tag} {code : Int}

/-- The next slot begins where a slot has ended: its conversion in the pipeline stage, the clock 5 ticks on, the next slot's tags. -/
def State.slotBegun (s : State) (ended : Tag) (code : Int) : State :=
  { s with
    acq :=
      { s.acq with
        pipe := some { tag := ended, code := code }
        slotStart := (s.acq.slotStart + 5) % 4294967296
        seq := s.acq.seq + 1
        slot := some (nextSlot s s.drive.switchClosed) } }

/-- The tags of the slot that begins 5 ticks on are those of the next slot. -/
theorem slotTag_eq_nextSlot (s : State) (pipe : Option Conversion) :
    (s.setAcq { s.acq with pipe := pipe, slotStart := ticksAfter s.acq.slotStart Config.slotTicks }).slotTag =
      nextSlot s s.drive.switchClosed := by
  unfold State.slotTag nextSlot channelFor
  simp only [State.setAcq_acq, State.setAcq_timer, State.setAcq_drive]
  cases s.timer.window with
  | noWindow | onReference => rfl
  | off => cases s.acq.current <;> rfl

theorem exec_conversionSlot (hrunning : s.acq.running = true)
    (hdue : 5 ≤ (s.timer.elapsed + 4294967296 - s.acq.slotStart) % 4294967296) (hslot : s.acq.slot = some ended) :
    exec (.conversionSlot code) s = .next ((s.deliverAndComplete ended).slotBegun ended code) := by
  have hend : s.endSlot code = (s.deliverAndComplete ended).slotBegun ended code := by
    unfold State.endSlot
    rw [hslot]
    dsimp only
    rw [State.beginSlot, slotTag_eq_nextSlot]
    rfl
  rw [← hend]
  exact event_of_due ⟨hrunning, hdue⟩ s _

/-- The next slot's tags read the line timer, the slot clock, the sequence count and the off start of the pair in progress. -/
theorem nextSlot_congr {x y : State} (htimer : x.timer = y.timer) (hseq : x.acq.seq = y.acq.seq)
    (hstart : x.acq.slotStart = y.acq.slotStart)
    (hcurrent : x.acq.current.map PairWork.offStart = y.acq.current.map PairWork.offStart) (closed : Bool) :
    nextSlot x closed = nextSlot y closed := by
  unfold nextSlot
  rw [htimer, hseq, hstart]
  cases hx : x.acq.current with
  | none =>
    rw [hx, Option.map_none] at hcurrent
    rw [Option.map_eq_none_iff.mp hcurrent.symm]
  | some v =>
    rw [hx, Option.map_some] at hcurrent
    obtain ⟨w, hw, hoff⟩ := Option.map_eq_some_iff.mp hcurrent.symm
    rw [hw]
    cases y.timer.window with
    | noWindow | onReference => rfl
    | off => dsimp only; rw [hoff]

/-- With no pair in its flush the delivery comes first, and the on-reference completion after it. -/
theorem deliverAndComplete_of_no_flush {d : State} (hflush : s.acq.flushing = none) (hd : s.deliverPipe = d)
    (hflushed : d.acq.flushing = none) : s.deliverAndComplete ended = d.setAcq (d.acq.checkOn ended) := by
  have heither : ¬ s.eitherOrder ended := by
    rintro ⟨-, w, hw, -⟩
    rw [hflush] at hw
    cases hw
  have hsame : (d.acq.checkOn ended).flushing = none := by
    unfold Acq.checkOn Acq.completeOn Acq.writeBank Acq.setBank
    (repeat' split) <;> exact hflushed
  rw [State.deliverAndComplete, if_neg heither, hd, State.completions, State.checkOff]
  simp only [State.setAcq_acq, hsame]

theorem deliverPipe_of_sample {c : Conversion} (hfirst : s.acq.discardFirst = false) (hpipe : s.acq.pipe = some c) :
    s.deliverPipe = s.deliver c := by
  simp [State.deliverPipe, hfirst, hpipe]

theorem deliverPipe_of_first (hfirst : s.acq.discardFirst = true) :
    s.deliverPipe = s.setAcq { s.acq with discardFirst := false, pipe := none } := by
  simp [State.deliverPipe, hfirst]

/-- A slot's end with a sample in the pipeline stage and no pair in its flush: the drive controller meets the sample, the acquisition
unit is credited with it and makes the on-reference completion, and the next slot begins. -/
theorem exec_conversionSlot_of_sample {c : Conversion} {a a' : Acq} (hrunning : s.acq.running = true)
    (hdue : 5 ≤ (s.timer.elapsed + 4294967296 - s.acq.slotStart) % 4294967296) (hslot : s.acq.slot = some ended)
    (hflush : s.acq.flushing = none) (hfirst : s.acq.discardFirst = false) (hpipe : s.acq.pipe = some c)
    (hcredit : s.acq.credit s.params c.tag (s.valueOf c) = a) (hflushed : a.flushing = none) (hcheck : a.checkOn ended = a')
    (hseq : a'.seq = s.acq.seq) (hstart : a'.slotStart = s.acq.slotStart)
    (hcurrent : a'.current.map PairWork.offStart = s.acq.current.map PairWork.offStart) :
    exec (.conversionSlot code) s = .next
      { s.sampled c with
        acq :=
          { a' with
            pipe := some { tag := ended, code := code }
            slotStart := (s.acq.slotStart + 5) % 4294967296
            seq := s.acq.seq + 1
            slot := some (nextSlot s (s.sampled c).drive.switchClosed) } } := by
  have hdeliver := deliver_eq s c
  rw [hcredit] at hdeliver
  have htimer : (s.sampled c).timer = s.timer := by rw [sampled_eq]
  have hnext := nextSlot_congr (x := { s.sampled c with acq := a' }) htimer hseq hstart hcurrent (s.sampled c).drive.switchClosed
  rw [exec_conversionSlot hrunning hdue hslot, deliverAndComplete_of_no_flush hflush
    ((deliverPipe_of_sample hfirst hpipe).trans hdeliver) hflushed, State.setAcq]
  simp only [hcheck, State.slotBegun, hnext, hseq, hstart]

end SlotEnd

/-! ### What a sample is credited to (R25 to R27, R36) -/

section Credit

variable {a : Acq} {ps : Params} {t : Tag} {v : Int} {w : PairWork}

theorem credit_of_no_pair (hpair : t.role = .noWindow ∨ ∀ w, a.current = some w → t.pair ≠ some w.pair.serial)
    (hflush : a.flushing = none) : a.credit ps t v = a := by
  unfold Acq.credit
  cases hrole : t.role with
  | noWindow => rfl
  | onReference =>
    have hnot := hpair.resolve_left (by rw [hrole]; decide)
    cases hcurrent : a.current with
    | none => rfl
    | some w => exact if_neg (hnot w hcurrent)
  | off =>
    have hnot := hpair.resolve_left (by rw [hrole]; decide)
    cases hcurrent : a.current with
    | none => simp [hflush]
    | some w => simp [hflush, hnot w hcurrent]

theorem credit_of_onReference (hrole : t.role = .onReference) (hcurrent : a.current = some w)
    (hpair : t.pair = some w.pair.serial) : a.credit ps t v = { a with current := some (w.creditOn t v) } := by
  simp [Acq.credit, hrole, hcurrent, hpair]

theorem credit_of_off_psp (hrole : t.role = .off) (hchannel : t.channel = .psp) (hcurrent : a.current = some w)
    (hpair : t.pair = some w.pair.serial) :
    a.credit ps t v =
      { a.writeBank w.bank [{ value := v, slot := (t.seq : Int) }] with current := some (w.creditOff ps t v) } := by
  simp [Acq.credit, hrole, hchannel, hcurrent, hpair]

/-- A switch-verify sample is credited to nothing. -/
theorem credit_of_off_other (hrole : t.role = .off) (hchannel : t.channel ≠ .psp) : a.credit ps t v = a := by
  simp [Acq.credit, hrole, hchannel]

theorem checkOn_of_other (h : ∀ w, a.current = some w → ¬ (t.role = .off ∧ t.seq = 0 ∧ t.pair = some w.pair.serial)) :
    a.checkOn t = a := by
  unfold Acq.checkOn
  cases hcurrent : a.current with
  | none => rfl
  | some w => exact if_neg (h w hcurrent)

theorem checkOn_of_flush (hcurrent : a.current = some w) (hflush : w.isOnFlush t) : a.checkOn t = a.completeOn w := by
  unfold Acq.checkOn
  rw [hcurrent]
  exact if_pos hflush

/-- A sample that reports no stuck switch is met as a protection sample alone. -/
theorem sampled_of_not_stuck {s : State} {c : Conversion} (h : ¬ s.Stuck c) : s.sampled c =
    if c.tag.channel ≠ .psp ∧ c.tag.switchClosed = true then s.protectionSample c.tag.channel (s.valueOf c) else s := if_neg h

end Credit

theorem not_stuck_of_role {s : State} {c : Conversion} (h : c.tag.role ≠ .off) : ¬ s.Stuck c := fun hstuck => h hstuck.2.1

/-- Settles O17: the first delivery, a sample outside windows, and a sample whose pair is gone. -/
theorem conversionSlotOutsideWindows : Obligations.ConversionSlotOutsideWindows := by
  refine ⟨fun s u ended code hrunning hdue hslot hrole hwindow hpair hflush hcase => ?_,
    fun s x u ended c code v hrunning hdue hslot hflush hfirst hpipe hgone hended hv hx hu => ?_⟩
  · have hnotFlush (a : Acq) : a.checkOn ended = a := checkOn_of_other fun w _ h => by rw [hrole] at h; cases h.1
    have hnext (closed : Bool) : nextSlot s closed =
        { channel := if s.acq.seq % 2 = 0 then .outi else .outv, role := .noWindow, pair := none, offset := 0
          switchClosed := closed, seq := s.acq.seq } := by
      rw [nextSlot, hwindow, hpair]
      rfl
    rcases hcase with ⟨hfirst, rfl⟩ | ⟨hfirst, c, hpipe, hsample, rfl⟩
    · rw [exec_conversionSlot hrunning hdue hslot, deliverAndComplete_of_no_flush hflush (deliverPipe_of_first hfirst) hflush,
        hnotFlush]
      simp only [State.slotBegun, State.setAcq, nextSlot, hwindow, hpair]
      rfl
    · have hrest : c.tag.role ≠ .off := by rw [hsample]; decide
      have hmet := sampled_eq s c
      rw [exec_conversionSlot_of_sample hrunning hdue hslot hflush hfirst hpipe (credit_of_no_pair (.inl hsample) hflush) hflush
        (hnotFlush _) rfl rfl rfl, ← sampled_of_not_stuck (not_stuck_of_role hrest), hnext]
      rw [hmet]
  · have hmet : s.sampled c = u := by
      rw [hu, hx, hv]
      rfl
    rw [exec_conversionSlot_of_sample hrunning hdue hslot hflush hfirst hpipe (credit_of_no_pair hgone hflush) hflush
      (checkOn_of_other hended) rfl rfl rfl, hmet]

/-! ### Samples of the on-reference window (R26, R35) -/

section OnReference

variable {w : PairWork} {t : Tag} {v : Int}

/-- The ring keeps the newest 64 (R35). -/
theorem ring_drop {ring : List Entry} (h : ring.length ≤ 64) (e : Entry) :
    (ring ++ [e]).drop ((ring ++ [e]).length - 64) = (if ring.length = 64 then ring.drop 1 else ring) ++ [e] := by
  rw [List.length_append, List.length_singleton]
  split_ifs with hfull
  · rw [hfull, List.drop_append_of_le_length (by omega)]
  · have hzero : ring.length + 1 - 64 = 0 := by omega
    rw [hzero, List.drop_zero]

theorem creditOn_psp (hchannel : t.channel = .psp) (hring : w.ring.length ≤ 64) : w.creditOn t v =
    { w with
      onSums := { w.onSums with psp := ⟨w.onSums.psp.total + v, w.onSums.psp.count + 1⟩ }
      ring := (if w.ring.length = 64 then w.ring.drop 1 else w.ring) ++ [⟨v, t.seq⟩] } := by
  rw [← ring_drop hring]
  simp [PairWork.creditOn, hchannel, OnSums.add, Sum.add]

theorem creditOn_outi (hchannel : t.channel = .outi) : w.creditOn t v =
    { w with onSums := { w.onSums with outi := ⟨w.onSums.outi.total + v, w.onSums.outi.count + 1⟩ } } := by
  simp [PairWork.creditOn, hchannel, OnSums.add, Sum.add]

theorem creditOn_outv (hchannel : t.channel = .outv) : w.creditOn t v =
    { w with onSums := { w.onSums with outv := ⟨w.onSums.outv.total + v, w.onSums.outv.count + 1⟩ } } := by
  simp [PairWork.creditOn, hchannel, OnSums.add, Sum.add]

/-- A credited on-reference sample leaves the pair, its bank and its off window. -/
theorem creditOn_eq : w.creditOn t v = { w with onSums := (w.creditOn t v).onSums, ring := (w.creditOn t v).ring } := rfl

end OnReference

/-- Settles O18: the credit by channel, and the drive controller's part of an OUTI or OUTV sample. -/
theorem onReferenceSamplesAreSummed : Obligations.OnReferenceSamplesAreSummed := by
  intro s w ended c code v hrunning hdue hslot hrole hflush hfirst hpipe hsample hcurrent hpair hring hv
  have hrest : c.tag.role ≠ .off := by rw [hsample]; decide
  have hmet := sampled_of_not_stuck (s := s) (not_stuck_of_role hrest)
  have hnotFlush (a : Acq) : a.checkOn ended = a := checkOn_of_other fun w _ h => by rw [hrole] at h; cases h.1
  have hexec := exec_conversionSlot_of_sample (code := code) hrunning hdue hslot hflush hfirst hpipe
    (credit_of_onReference hsample hcurrent hpair) hflush (hnotFlush _) rfl rfl (by rw [hcurrent]; rfl)
  rw [sampled_eq] at hexec
  subst hv
  refine ⟨_, w.creditOn c.tag (s.valueOf c), hexec, rfl, fun hchannel => ?_, fun hchannel => ?_, fun hchannel => ?_,
    fun hchannel hclosed => ?_, fun hchannel hopen => ?_, rfl, rfl, rfl⟩
  · have hnone : s.sampled c = s := hmet.trans (if_neg fun h => h.1 hchannel)
    rw [creditOn_psp hchannel hring, hnone]
    exact ⟨rfl, rfl, rfl, rfl⟩
  · rw [creditOn_outi hchannel]
    exact ⟨rfl, rfl⟩
  · rw [creditOn_outv hchannel]
    exact ⟨rfl, rfl⟩
  · have hprotection : s.sampled c = s.protectionSample c.tag.channel (s.valueOf c) := hmet.trans (if_pos ⟨hchannel, hclosed⟩)
    rw [hprotection]
    exact ⟨rfl, rfl⟩
  · have hnone : s.sampled c = s := hmet.trans (if_neg fun h => by rw [hopen] at h; cases h.2)
    rw [hnone]
    exact ⟨rfl, rfl⟩

/-! ### The on-reference completion (R26, R35) -/

section Completion

variable {w : PairWork} {t : Tag} {x : Int}

/-- Entries that all fit join a bank in order (R36). -/
theorem foldl_write (b : Bank) (es : List Entry) (h : b.entries.length + es.length ≤ 512) :
    es.foldl Bank.write b = { b with entries := b.entries ++ es } := by
  induction es generalizing b with
  | nil => simp
  | cons e es ih =>
    rw [List.length_cons] at h
    have hwrite : b.write e = { b with entries := b.entries ++ [e] } := if_pos (by omega)
    rw [List.foldl_cons, hwrite, ih _ (by simp; omega), List.append_assoc, List.singleton_append]

theorem bank_setBank (a : Acq) (id : BankId) (b : Bank) : (a.setBank id b).bank id = b := by
  cases id <;> rfl

theorem bank_setBank_other (a : Acq) (id : BankId) (b : Bank) : (a.setBank id b).bank id.other = a.bank id.other := by
  cases id <;> rfl

theorem writeBank_eq (a : Acq) (id : BankId) (es : List Entry) :
    a.writeBank (some id) es = a.setBank id (es.foldl Bank.write (a.bank id)) := rfl

/-- Two acquisition units with the same banks. -/
theorem bank_of_banks {a b : Acq} (hA : a.bankA = b.bankA) (hB : a.bankB = b.bankB) (id : BankId) : a.bank id = b.bank id := by
  cases id
  · exact hA
  · exact hB

/-- The on-reference completion of a pair with an empty bank (R26, R35). -/
theorem completeOn_eq {a : Acq} {w : PairWork} {id : BankId} {f : OnFigures} (hbank : w.bank = some id)
    (hempty : (a.bank id).entries = []) (hring : w.ring.length ≤ 64) (hfigures : w.onSums.figures = some f) :
    a.completeOn w =
      { a.setBank id { a.bank id with entries := w.ringEntries } with
        current := some { w with figures := some f }
        latestCurrent := f.iOn.toNat } := by
  have hlength : w.ringEntries.length = w.ring.length := List.length_map ..
  rw [Acq.completeOn, hfigures, hbank, writeBank_eq, foldl_write _ _ (by rw [hempty, List.length_nil]; omega), hempty, List.nil_append]
  rfl

/-- The sums after a credited sample, channel by channel (R26). -/
theorem creditOn_onSums : (w.creditOn t x).onSums =
    { psp := if t.channel = .psp then ⟨w.onSums.psp.total + x, w.onSums.psp.count + 1⟩ else w.onSums.psp
      outi := if t.channel = .outi then ⟨w.onSums.outi.total + x, w.onSums.outi.count + 1⟩ else w.onSums.outi
      outv := if t.channel = .outv then ⟨w.onSums.outv.total + x, w.onSums.outv.count + 1⟩ else w.onSums.outv } := by
  cases hchannel : t.channel <;> simp [PairWork.creditOn, hchannel, OnSums.add, Sum.add]

theorem creditOn_ring (hring : w.ring.length ≤ 64) : (w.creditOn t x).ring =
    if t.channel = .psp then (if w.ring.length = 64 then w.ring.drop 1 else w.ring) ++ [⟨x, t.seq⟩] else w.ring := by
  rw [← ring_drop hring]
  rfl

/-- A credited ring holds at most 64 entries. -/
theorem creditOn_ring_length (hring : w.ring.length ≤ 64) : (w.creditOn t x).ring.length ≤ 64 := by
  rw [creditOn_ring hring]
  split_ifs with hpsp hfull
  · rw [List.length_append, List.length_drop, List.length_singleton]
    omega
  · rw [List.length_append, List.length_singleton]
    omega
  · exact hring

/-- The figures of three sums with samples are their rounded means (R26). -/
theorem figures_eq {psp outi outv : Sum} {e i v : Int} (hpsp : 0 < psp.count) (houti : 0 < outi.count) (houtv : 0 < outv.count)
    (he : Rounded psp.total psp.count e) (hi : Rounded outi.total outi.count i) (hv : Rounded outv.total outv.count v) :
    ({ psp := psp, outi := outi, outv := outv } : OnSums).figures = some { eOn := e, iOn := i, vOn := v } := by
  have hsome : ¬ (psp.count = 0 ∨ outi.count = 0 ∨ outv.count = 0) := by omega
  rw [OnSums.figures, if_neg hsome]
  simp only [Sum.mean, roundDiv_eq_of_rounded hpsp he, roundDiv_eq_of_rounded houti hi, roundDiv_eq_of_rounded houtv hv]

end Completion

/-- Settles O19: the last on-reference sample is credited, and then the figures and the ring are formed. -/
theorem onReferenceReductionCompletes : Obligations.OnReferenceReductionCompletes := by
  intro s w id ended c ring psp outi outv code e i v x hrunning hdue hslot hrole hseq hended hflush hfirst hpipe hsample hpair
    hcurrent hbank hempty hring hx hpsp houti houtv hrings hpspCount houtiCount houtvCount he hi hv
  subst hx
  have hrest : c.tag.role ≠ .off := by rw [hsample]; decide
  have hmet := sampled_of_not_stuck (s := s) (not_stuck_of_role hrest)
  have hfigures : (w.creditOn c.tag (s.valueOf c)).onSums.figures = some { eOn := e, iOn := i, vOn := v } := by
    rw [creditOn_onSums, ← hpsp, ← houti, ← houtv]
    exact figures_eq hpspCount houtiCount houtvCount he hi hv
  have hringEq : (w.creditOn c.tag (s.valueOf c)).ring = ring := (creditOn_ring hring).trans hrings.symm
  have hcheck := (checkOn_of_flush (a := { s.acq with current := some (w.creditOn c.tag (s.valueOf c)) }) (t := ended) rfl
    ⟨hrole, hseq, hended⟩).trans (completeOn_eq (id := id) hbank ((congrArg Bank.entries (bank_of_banks rfl rfl id)).trans hempty)
      (creditOn_ring_length hring) hfigures)
  have hexec := exec_conversionSlot_of_sample (code := code) hrunning hdue hslot hflush hfirst hpipe
    (credit_of_onReference hsample hcurrent hpair) hflush hcheck (by cases id <;> rfl) (by cases id <;> rfl)
    (by rw [hcurrent]; rfl)
  rw [sampled_eq] at hexec
  refine ⟨_, _, hexec, rfl, rfl, rfl, ?_, by cases id <;> rfl, fun hmetBy => ?_, fun hnone => ?_, rfl, rfl, rfl, rfl, rfl, rfl, rfl,
    rfl⟩
  · rw [← hringEq]
    cases id <;> rfl
  · have hprotection : s.sampled c = s.protectionSample c.tag.channel (s.valueOf c) := hmet.trans (if_pos hmetBy)
    rw [hprotection]
    exact ⟨rfl, rfl⟩
  · have hnothing : s.sampled c = s := hmet.trans (if_neg fun ⟨hchannel, hclosed⟩ => hnone.elim hchannel fun hopen => by
      rw [hopen] at hclosed
      cases hclosed)
    rw [hnothing]
    exact ⟨rfl, rfl⟩

/-! ### Samples of the off window (R27, R32, R36) -/

section OffWindow

variable {w : PairWork} {t : Tag} {v : Int} {ps : Params}

theorem creditOff_of_member (hsettle : ps.nat 11 ≤ t.offset) (hcount : w.offSet.count < ps.nat 12) :
    w.creditOff ps t v = { w with offSet := w.offSet.add v } := if_pos ⟨hsettle, hcount⟩

theorem creditOff_of_other (h : t.offset < ps.nat 11 ∨ ps.nat 12 ≤ w.offSet.count) : w.creditOff ps t v = w := by
  refine if_neg fun ⟨hsettle, hcount⟩ => ?_
  change ps.nat 11 ≤ t.offset at hsettle
  change w.offSet.count < ps.nat 12 at hcount
  omega

theorem creditOff_offStart : (w.creditOff ps t v).offStart = w.offStart := by
  unfold PairWork.creditOff
  split_ifs <;> rfl

theorem write_of_room {b : Bank} (h : b.entries.length < 512) (e : Entry) :
    b.write e = { b with entries := b.entries ++ [e] } := if_pos h

theorem write_of_full {b : Bank} (h : 512 ≤ b.entries.length) (e : Entry) :
    b.write e = { b with header := b.header.map fun h => { h with truncated := true } } := if_neg h.not_gt

end OffWindow

/-- Settles O20: a PSP sample's credit, and a switch-verify sample's report. -/
theorem offWindowSamples : Obligations.OffWindowSamples := by
  intro s w id b ended c code v hrunning hdue hslot hrole hseq hflush hfirst hpipe hsample hclosed hpair hcurrent hbank hb hv
  subst hb hv
  have hended (a : Acq) : a.checkOn ended = a := checkOn_of_other fun w _ h => absurd h.2.1 hseq.ne'
  have hmet : s.sampled c = if s.Stuck c then s.stuckSwitch else s := by
    unfold State.sampled
    simp only [hclosed, Bool.false_eq_true, and_false, if_false]
  by_cases hchannel : c.tag.channel = .psp
  · have hnothing : s.sampled c = s := hmet.trans (if_neg fun h => absurd (hchannel.symm.trans h.1) (by decide))
    have hcredit := credit_of_off_psp (ps := s.params) (v := s.valueOf c) hsample hchannel hcurrent hpair
    rw [hbank, writeBank_eq] at hcredit
    have hexec := exec_conversionSlot_of_sample (code := code) hrunning hdue hslot hflush hfirst hpipe hcredit
      (by cases id <;> exact hflush) (hended _) (by cases id <;> rfl) (by cases id <;> rfl)
      (by rw [hcurrent]; exact congrArg some creditOff_offStart)
    rw [hnothing] at hexec
    have hwritten : (s.acq.bank id).write { value := s.valueOf c, slot := (c.tag.seq : Int) } =
        [{ value := s.valueOf c, slot := (c.tag.seq : Int) }].foldl Bank.write (s.acq.bank id) := rfl
    rw [← hwritten] at hexec
    refine ⟨_, hexec, rfl, rfl, rfl, by cases id <;> rfl, by cases id <;> rfl, rfl, rfl, fun _ => ⟨rfl, rfl, fun hroom => ?_,
      fun hfull => ?_, fun hsettle hcount => ?_, fun hother => ?_⟩, fun houti => absurd (hchannel.symm.trans houti) (by decide)⟩
    · rw [write_of_room hroom]
      cases id <;> rfl
    · rw [write_of_full hfull]
      cases id <;> rfl
    · rw [creditOff_of_member hsettle hcount]
      exact ⟨_, rfl, rfl, rfl, fun hzero => ⟨if_pos hzero, if_pos hzero⟩, fun hsome => ⟨if_neg hsome, if_neg hsome⟩⟩
    · rw [creditOff_of_other hother]
  · have hexec := exec_conversionSlot_of_sample (code := code) hrunning hdue hslot hflush hfirst hpipe
      (credit_of_off_other hsample hchannel) hflush (hended _) rfl rfl rfl
    rw [sampled_eq] at hexec
    refine ⟨_, hexec, rfl, rfl, rfl, bank_of_banks rfl rfl _, rfl, rfl, rfl, fun h => absurd h hchannel,
      fun houti => ⟨bank_of_banks rfl rfl _, hcurrent, fun hseven hoffset hleak => ?_, fun hquiet => ?_⟩⟩
    · rw [hmet, if_pos ⟨houti, hsample, hseven, hoffset, hleak⟩]
      exact ⟨rfl, rfl⟩
    · have hnot : ¬ s.Stuck c := fun ⟨_, _, hseven, hoffset, hleak⟩ =>
        hquiet.elim (fun h => h hseven) fun h => h.elim (fun h => h.not_ge hoffset) fun h => h.not_gt hleak
      rw [hmet, if_neg hnot]
      exact ⟨rfl, rfl⟩

end Sys2Proof.Machine

/-! # The flush slot (O21) -/

namespace Sys2Proof.Machine

open Sys2Proof.Safety

/-! ### What a delivery leaves of the acquisition unit -/

section CreditFrame

variable (a : Acq) (ps : Params) (t : Tag) (v : Int)

/-- A credit changes the banks and what is gathered for the two pairs. -/
structure CreditKeeps (a b : Acq) : Prop where
  seq : b.seq = a.seq
  slotStart : b.slotStart = a.slotStart
  discardFirst : b.discardFirst = a.discardFirst
  pipe : b.pipe = a.pipe
  offStart : b.current.map PairWork.offStart = a.current.map PairWork.offStart
  flushing : a.flushing = none → b.flushing = none

theorem CreditKeeps.refl : CreditKeeps a a := ⟨rfl, rfl, rfl, rfl, rfl, id⟩

theorem writeBank_keeps (id : Option BankId) (es : List Entry) : CreditKeeps a (a.writeBank id es) := by
  cases id with
  | none => exact .refl a
  | some id => cases id <;> exact ⟨rfl, rfl, rfl, rfl, rfl, id⟩

theorem credit_keeps : CreditKeeps a (a.credit ps t v) := by
  have current {b : Acq} {w x : PairWork} (h : CreditKeeps a b) (hw : a.current = some w) (hx : x.offStart = w.offStart) :
      CreditKeeps a { b with current := some x } :=
    ⟨h.seq, h.slotStart, h.discardFirst, h.pipe, by rw [hw]; exact congrArg some hx, h.flushing⟩
  have flushing {b : Acq} {w x : PairWork} (h : CreditKeeps a b) (hw : a.flushing = some w) :
      CreditKeeps a { b with flushing := some x } :=
    ⟨h.seq, h.slotStart, h.discardFirst, h.pipe, h.offStart, fun hnone => by rw [hw] at hnone; cases hnone⟩
  unfold Acq.credit
  cases t.role with
  | noWindow => exact .refl a
  | onReference =>
    dsimp only
    split
    · next w hw =>
      split_ifs
      · exact current (.refl a) hw rfl
      · exact .refl a
    · exact .refl a
  | off =>
    dsimp only
    split_ifs
    · exact .refl a
    · cases hf : a.flushing with
      | none =>
        cases hw : a.current with
        | none => exact .refl a
        | some w =>
          dsimp only
          split_ifs
          · exact current (writeBank_keeps a _ _) hw creditOff_offStart
          · exact .refl a
      | some f =>
        cases hw : a.current with
        | none =>
          dsimp only
          split_ifs
          · exact flushing (writeBank_keeps a _ _) hf
          · exact .refl a
        | some w =>
          dsimp only
          split_ifs
          · exact current (writeBank_keeps a _ _) hw creditOff_offStart
          · exact flushing (writeBank_keeps a _ _) hf
          · exact .refl a

end CreditFrame

/-! ### The reduction and the bank of the flushed pair (R28, R29, R34, R37) -/

section Flush

variable {a : Acq} {ps : Params} {w : PairWork} {id : BankId} {h : Header}

/-- The reduction of a pair that ran to its off end, from its fields (R29). -/
theorem reduction_eq {r : Reduction} {truncated : Bool} (hkind : r.kind = w.pair.kind) (hindex : r.index = w.pair.index)
    (hsurvey : r.survey = w.pair.survey) (heOn : r.eOn = w.figures.map (fun f => f.eOn))
    (hiOn : r.iOn = (w.figures.map (fun f => f.iOn)).getD 0) (hvOn : r.vOn = (w.figures.map (fun f => f.vOn)).getD 0)
    (hempty : w.offSet.count = 0 → r.eOff = none ∧ r.spread = 0)
    (hmembers : 0 < w.offSet.count →
      r.spread = w.offSet.high - w.offSet.low ∧ ∃ e, r.eOff = some e ∧ Rounded w.offSet.total w.offSet.count e)
    (hcount : r.setCount = w.offSet.count) (hshort : r.short = decide (w.offSet.count < ps.nat 12))
    (htruncated : r.truncated = truncated) (hran : r.abandoned = false) : w.reduction ps truncated = r := by
  have hset : w.offSet.mean = r.eOff ∧ w.offSet.spread = r.spread := by
    rcases Nat.eq_zero_or_pos w.offSet.count with hzero | hpos
    · obtain ⟨heOff, hspread⟩ := hempty hzero
      rw [OffSet.mean, OffSet.spread, if_pos hzero, if_pos hzero, heOff, hspread]
      exact ⟨rfl, rfl⟩
    · obtain ⟨hspread, e, heOff, hrounded⟩ := hmembers hpos
      rw [OffSet.mean, OffSet.spread, if_neg hpos.ne', if_neg hpos.ne', heOff, hspread, roundDiv_eq_of_rounded hpos hrounded]
      exact ⟨rfl, rfl⟩
  obtain ⟨hmean, hspread⟩ := hset
  have hshortEq : decide (w.short ps) = r.short := hshort.symm
  rw [PairWork.reduction, hmean, hspread, hshortEq, ← hkind, ← hindex, ← hsurvey, ← heOn, ← hiOn, ← hvOn, ← hcount,
    ← htruncated, ← hran]

/-- The acquisition unit at a reduction-complete event: the bank is sealed and a pending take is made. -/
def Acq.flushed (a : Acq) (w : PairWork) (ps : Params) : Acq :=
  ({ a.sealFor w ps false with flushing := none } : Acq).makePendingTake

/-- What a flush leaves: the sealed bank, or the pair that waited for a bank with the one just sealed. -/
structure Flushed (a b : Acq) (id : BankId) (short : Bool) (h : Header) : Prop where
  flushing : b.flushing = none
  newer : b.newer = some id
  pendingTake : b.pendingTake = false
  other : b.bank id.other = a.bank id.other
  seq : b.seq = a.seq
  slotStart : b.slotStart = a.slotStart
  discardFirst : b.discardFirst = a.discardFirst
  pipe : b.pipe = a.pipe
  offStart : b.current.map PairWork.offStart = a.current.map PairWork.offStart
  sealed : a.pendingTake = false → b.current = a.current ∧
    b.bank id = { a.bank id with state := .sealed, header := some { h with short := short, abandoned := false } }
  taken : ∀ x, a.pendingTake = true → a.current = some x →
    b.current = some { x with bank := some id } ∧ b.bank id = x.pair.takenBank

theorem flushed_of_no_take (hbank : w.bank = some id) (hheader : (a.bank id).header = some h) (hpending : a.pendingTake = false) :
    a.flushed w ps =
      { a.setBank id
          { a.bank id with
            state := .sealed, header := some { h with short := decide (w.offSet.count < ps.nat 12), abandoned := false } } with
        newer := some id, flushing := none } := by
  unfold Acq.flushed Acq.makePendingTake
  rw [Acq.sealFor, hbank]
  dsimp only
  rw [Acq.sealBank, hheader]
  cases id <;> simp only [Acq.setBank, hpending] <;> rfl

theorem flushed_of_take {x : PairWork} (hbank : w.bank = some id) (hpending : a.pendingTake = true)
    (hcurrent : a.current = some x) (hother : (a.bank id.other).state = .held ∨ (a.bank id.other).state = .filling) :
    a.flushed w ps =
      { a.setBank id x.pair.takenBank with
        newer := some id, flushing := none, current := some { x with bank := some id }, pendingTake := false } := by
  unfold Acq.flushed Acq.makePendingTake
  rw [Acq.sealFor, hbank]
  dsimp only
  cases id with
  | a =>
    have htakeable : ({ a.sealBank .a (decide (w.short ps)) false with flushing := none } : Acq).takeable = some .a :=
      Acq.takeable_of_sealedA rfl hother
    simp only [Acq.sealBank, Acq.setBank, hpending, hcurrent, Acq.take] at htakeable ⊢
    rw [htakeable]
  | b =>
    have htakeable : ({ a.sealBank .b (decide (w.short ps)) false with flushing := none } : Acq).takeable = some .b :=
      Acq.takeable_of_sealedB rfl hother
    simp only [Acq.sealBank, Acq.setBank, hpending, hcurrent, Acq.take] at htakeable ⊢
    rw [htakeable]

theorem flushed_facts (hbank : w.bank = some id) (hheader : (a.bank id).header = some h)
    (htake : a.pendingTake = false ∨
      (a.current ≠ none ∧ ((a.bank id.other).state = .held ∨ (a.bank id.other).state = .filling))) :
    Flushed a (a.flushed w ps) id (decide (w.offSet.count < ps.nat 12)) h := by
  cases hpending : a.pendingTake with
  | false =>
    rw [flushed_of_no_take hbank hheader hpending]
    cases id <;> exact ⟨rfl, rfl, hpending, rfl, rfl, rfl, rfl, rfl, rfl, fun _ => ⟨rfl, rfl⟩,
      fun x hx => absurd (hpending.symm.trans hx) (by decide)⟩
  | true =>
    obtain ⟨hcurrent, hother⟩ := htake.resolve_left (by rw [hpending]; decide)
    obtain ⟨x, hx⟩ := Option.ne_none_iff_exists'.mp hcurrent
    rw [flushed_of_take hbank hpending hx hother]
    have htaken (y : PairWork) (hy : a.current = some y) : y = x := Option.some.inj (hy.symm.trans hx)
    cases id <;> exact ⟨rfl, rfl, rfl, rfl, rfl, rfl, rfl, rfl, (congrArg (Option.map PairWork.offStart) hx).symm,
      fun hf => absurd (hpending.symm.trans hf) (by decide), fun y _ hy => htaken y hy ▸ ⟨rfl, rfl⟩⟩

/-- A reduction-complete event hands the reduction over, and leaves the acquisition unit flushed. -/
theorem completeOff_eq {x : State} {r : Reduction} (hr : w.reduction x.params (x.acq.truncatedIn w.bank) = r) :
    x.completeOff w = { x.handOver r with acq := x.acq.flushed w x.params } := by
  rw [State.completeOff, hr]
  exact (handOver_elsewhere x r x.timer.nextEpochEnd x.timer.txPoint x.timer.epochWork x.timer.counted
    (x.acq.flushed w x.params) x.link x.draws).trans (by rw [handOver_eq])

/-- The completions at a slot that is no slot of an off window. -/
theorem completions_eq {x : State} {ended : Tag} (hended : ended.role ≠ .off) (hflush : x.acq.flushing = some w) :
    x.completions ended = x.completeOff w := by
  have hcheck : x.acq.checkOn ended = x.acq := checkOn_of_other fun w _ h => hended h.1
  have hflushEnds : w.flushEnds ended := fun h => hended h.1
  rw [State.completions, hcheck, State.checkOff]
  simp only [State.setAcq, hflush]
  exact if_pos hflushEnds

end Flush

/-! ### The flush slot's end (R25, R123) -/

section FlushSlot

variable {s : State} {w : PairWork} {ended : Tag} {c : Conversion} {r : Reduction}

/-- What the flush slot's delivery and completion leave, by the state u after the reduction and the order of the two (log 31). -/
def State.flushOutcome (s u : State) (a : Acq) (c : Conversion) (pointFirst : Bool) (n : Nat) : State :=
  { s with
    acq := a
    reg := u.reg
    drive := if pointFirst = true then (u.deliver c).drive else u.drive
    records := u.records
    port := if pointFirst = true then (u.deliver c).port else u.port
    draws := n }

theorem eitherOrder_iff {f : PairWork} (hfirst : s.acq.discardFirst = false) (hpipe : s.acq.pipe = some c)
    (hended : ended.role ≠ .off) (hflush : s.acq.flushing = some f) : s.eitherOrder ended ↔ s.Stuck c := by
  constructor
  · rintro ⟨⟨-, x, hx, hstuck⟩, -⟩
    obtain rfl : c = x := Option.some.inj (hpipe.symm.trans hx)
    exact hstuck
  · intro hstuck
    exact ⟨⟨hfirst, c, hpipe, hstuck⟩, f, hflush, fun h => hended h.1⟩

/-- A reduction-complete event leaves the draws as they stand, and reads none of them. -/
theorem completeOff_draws {x : State} (hr : w.reduction x.params (x.acq.truncatedIn w.bank) = r) (n : Nat) :
    ({ x with draws := n } : State).completeOff w = { x.handOver r with acq := x.acq.flushed w x.params, draws := n } := by
  have hdraws : ({ x with draws := n } : State).handOver r =
      { x.handOver r with timer := x.timer, acq := x.acq, link := x.link, draws := n } :=
    handOver_elsewhere x r x.timer.nextEpochEnd x.timer.txPoint x.timer.epochWork x.timer.counted x.acq x.link n
  rw [completeOff_eq (x := { x with draws := n }) hr, hdraws, handOver_eq]

/-- The completion after the delivery, on whatever draws stand. -/
theorem completeOff_delivered (hr : w.reduction s.params ((s.deliver c).acq.truncatedIn w.bank) = r) (n : Nat) :
    ({ s.deliver c with draws := n } : State).completeOff w =
      s.flushOutcome ((s.deliver c).handOver r) ((s.deliver c).acq.flushed w s.params) c false n := by
  have hparams : (s.deliver c).params = s.params := by rw [deliver_eq]; exact sampled_params s c
  rw [← hparams] at hr ⊢
  rw [completeOff_draws hr, handOver_eq, deliver_eq, sampled_eq]
  rfl

/-- The completion before a delivery that is credited to nothing. -/
theorem deliver_completed (hr : w.reduction s.params (s.acq.truncatedIn w.bank) = r) (hstuck : s.Stuck c) (n : Nat) :
    (({ s with draws := n } : State).completeOff w).deliver c =
      s.flushOutcome (s.handOver r) (s.acq.flushed w s.params) c true n := by
  have hcredit (a : Acq) (ps : Params) (v : Int) : a.credit ps c.tag v = a :=
    credit_of_off_other hstuck.2.1 (by rw [hstuck.1]; decide)
  obtain ⟨hdrive, hport⟩ := sampled_alike c
    (x := { s.handOver r with acq := s.acq.flushed w s.params, draws := n }) (y := s.handOver r) ⟨⟨rfl, rfl⟩, rfl⟩
  have hu : ((s.handOver r).deliver c).drive = ((s.handOver r).sampled c).drive ∧
      ((s.handOver r).deliver c).port = ((s.handOver r).sampled c).port := by
    rw [deliver_eq]
    exact ⟨rfl, rfl⟩
  rw [completeOff_draws hr, deliver_eq, hcredit, sampled_eq, hdrive, hport, State.flushOutcome, hu.1, hu.2, handOver_eq]
  rfl

theorem deliver_draws (n : Nat) : ({ s with draws := n } : State).deliver c = { s.deliver c with draws := n } := by
  obtain ⟨hdrive, hport⟩ := sampled_alike c (x := { s with draws := n }) (y := s) ⟨⟨rfl, rfl⟩, rfl⟩
  rw [deliver_eq, sampled_eq, hdrive, hport, deliver_eq, sampled_eq s]

/-- The delivery and the completion of the flush slot: the delivery first, but for a stuck-switch report, where a free value decides
(R25, R123, log 31). -/
theorem deliverAndComplete_flush (hended : ended.role ≠ .off) (hfirst : s.acq.discardFirst = false) (hpipe : s.acq.pipe = some c)
    (hflush : (s.deliver c).acq.flushing = some w)
    (hr : w.reduction s.params ((s.deliver c).acq.truncatedIn w.bank) = r)
    (hdiscard : ((s.deliver c).acq.flushed w s.params).discardFirst = (s.deliver c).acq.discardFirst)
    (hstage : ((s.deliver c).acq.flushed w s.params).pipe = (s.deliver c).acq.pipe) :
    ∃ (pointFirst : Bool) (n : Nat), s.deliverAndComplete ended =
        s.flushOutcome ((if pointFirst = true then s else s.deliver c).handOver r) ((s.deliver c).acq.flushed w s.params) c pointFirst n ∧
      (¬ s.Stuck c → pointFirst = false ∧ n = s.draws) ∧ (s.Stuck c → n = s.draws + 1) := by
  have hcredited : (s.deliver c).acq = s.acq.credit s.params c.tag (s.valueOf c) := by rw [deliver_eq]
  have hwaiting : s.acq.flushing ≠ none := fun hnone => by
    rw [hcredited, (credit_keeps s.acq s.params c.tag (s.valueOf c)).flushing hnone] at hflush
    cases hflush
  obtain ⟨f, hf⟩ := Option.ne_none_iff_exists'.mp hwaiting
  have heither := eitherOrder_iff hfirst hpipe hended hf
  have hafter (n : Nat) : ({ s.deliver c with draws := n } : State).completions ended =
      ({ s.deliver c with draws := n } : State).completeOff w := completions_eq hended hflush
  by_cases hstuck : s.Stuck c
  · have hsame : (s.deliver c).acq = s.acq := hcredited.trans (credit_of_off_other hstuck.2.1 (by rw [hstuck.1]; decide))
    rw [State.deliverAndComplete, if_pos (heither.mpr hstuck)]
    by_cases horder : Config.pointFirst s.draws
    · refine ⟨true, s.draws + 1, ?_, fun h => absurd hstuck h, fun _ => rfl⟩
      have hcompletions : s.drawn.completions ended = s.drawn.completeOff w := completions_eq hended (hsame ▸ hflush)
      have hcompleted := deliver_completed (hsame ▸ hr) hstuck (s.draws + 1)
      have hacq : (s.drawn.completeOff w).acq = s.acq.flushed w s.params :=
        congrArg State.acq (completeOff_draws (hsame ▸ hr) (s.draws + 1))
      rw [hsame] at hdiscard hstage
      rw [if_pos horder, hcompletions, deliverPipe_of_sample ((congrArg Acq.discardFirst hacq).trans (hdiscard.trans hfirst))
        ((congrArg Acq.pipe hacq).trans (hstage.trans hpipe)), hsame]
      exact hcompleted
    · refine ⟨false, s.draws + 1, ?_, fun h => absurd hstuck h, fun _ => rfl⟩
      have hdrawn : s.drawn.deliverPipe = { s.deliver c with draws := s.draws + 1 } := by
        rw [deliverPipe_of_sample (s := s.drawn) hfirst hpipe]
        exact deliver_draws (s.draws + 1)
      rw [if_neg horder, hdrawn, hafter, completeOff_delivered hr]
      rfl
  · refine ⟨false, s.draws, ?_, fun _ => ⟨rfl, rfl⟩, fun h => absurd h hstuck⟩
    have hdraws : (s.deliver c).draws = s.draws := by rw [deliver_eq, sampled_eq]
    rw [State.deliverAndComplete, if_neg (mt heither.mp hstuck), deliverPipe_of_sample hfirst hpipe]
    refine (hafter (s.deliver c).draws).trans ?_
    rw [hdraws, completeOff_delivered hr]
    rfl

end FlushSlot

/-- Settles O21: the flush slot's end by the order of the delivery and the completion, then the slot that begins. -/
theorem flushSlotHandsOverReduction : Obligations.FlushSlotHandsOverReduction := by
  intro s d w id ended c h code r stuck hrunning hdue hslot hended hfirst hpipe hd hstuckIff hflush hbank hheader htake hkind hindex
    hsurvey heOn hiOn hvOn hempty hmembers hcount hshort htruncated hran
  subst hd
  have hstuck : stuck ↔ s.Stuck c := by
    rw [hstuckIff]
    refine and_congr_right fun hchannel => ?_
    rw [State.valueOf, hchannel]
  have hin : (s.deliver c).acq.truncatedIn w.bank = h.truncated := by simp [Acq.truncatedIn, hbank, hheader]
  have hr : w.reduction s.params ((s.deliver c).acq.truncatedIn w.bank) = r := by
    rw [hin]
    exact reduction_eq hkind hindex hsurvey heOn hiOn hvOn hempty hmembers hcount hshort htruncated hran
  have hflushed : Flushed (s.deliver c).acq ((s.deliver c).acq.flushed w s.params) id r.short h :=
    hshort ▸ flushed_facts hbank hheader htake
  have hcredited := credit_keeps s.acq s.params c.tag (s.valueOf c)
  have hacq : (s.deliver c).acq = s.acq.credit s.params c.tag (s.valueOf c) := by rw [deliver_eq]
  rw [← hacq] at hcredited
  obtain ⟨pointFirst, n, hcompleted, hplain, hdrawn⟩ :=
    deliverAndComplete_flush hended hfirst hpipe hflush hr hflushed.discardFirst hflushed.pipe
  obtain ⟨found, hfound⟩ : ∃ found, found = if pointFirst = true then s else s.deliver c := ⟨_, rfl⟩
  rw [← hfound] at hcompleted
  have hu : found.handOver r = if w.pair.kind = .check then found.regulate r else found.surveyReduction r := by
    rw [handOver_if, hkind]
  have hnext (closed : Bool) : nextSlot (s.deliverAndComplete ended) closed = nextSlot s closed := by
    rw [hcompleted]
    exact nextSlot_congr (x := s.flushOutcome (found.handOver r) ((s.deliver c).acq.flushed w s.params) c pointFirst n) (y := s) rfl
      (hflushed.seq.trans hcredited.seq) (hflushed.slotStart.trans hcredited.slotStart)
      (hflushed.offStart.trans hcredited.offStart) closed
  have hrecords : found.records = s.records := by
    rw [hfound]
    split_ifs
    · rfl
    · rw [deliver_eq, sampled_eq]
  refine ⟨_, found.handOver r, found, pointFirst, exec_conversionSlot hrunning hdue hslot, ?_, ?_, hfound, hu, ?_,
    ?_, ?_, ?_, ?_, ?_, ?_, ?_, ?_⟩
  · intro hnot
    obtain ⟨hfirst, hn⟩ := hplain (mt hstuck.mpr hnot)
    rw [hcompleted]
    exact ⟨hfirst, hn⟩
  · intro h
    rw [hcompleted]
    exact hdrawn (hstuck.mp h)
  · intro hsurveyKind hlaw
    have hkindSurvey : ¬ r.kind = .check := by rw [hkind, hsurveyKind]; decide
    rw [handOver_if, if_neg hkindSurvey, State.surveyReduction_eq, surveyRecord_eq, hrecords, Records.join_eq hlaw.2.1,
      recordJoined_eq]
  · rw [hcompleted]; exact hflushed.flushing
  · rw [hcompleted]; exact hflushed.newer
  · rw [hcompleted]; exact hflushed.pendingTake
  · rw [hcompleted]; exact hflushed.other
  · exact congrArg some (hnext _)
  · rw [hcompleted]; exact hflushed.sealed
  · rw [hcompleted]; exact hflushed.taken
  · rw [hcompleted]; rfl

end Sys2Proof.Machine

/-! # The adopted survey as line time moves (R5, R136, R140, R152, R153)

Where line time stands relative to the adopted survey, in the words of the statements; then what a settling of the survey leaves.
-/

namespace Sys2Proof.Machine

open Sys2Proof.Safety

/-! ### Where line time stands (R140) -/

section Placed

variable {e : SurveyEntry} {p : SurveyParams} {stop t : Nat} {m : Move}

theorem SurveyParams.naturalEnd_eq (p : SurveyParams) : p.naturalEnd = (p.start + p.cycles * p.cycle) % 864000000 := by
  have hcast : (p.start : Int) + p.cycles * p.cycle = ((p.start + p.cycles * p.cycle : Nat) : Int) := by push_cast; rfl
  rw [SurveyParams.naturalEnd, hcast, dayMod, ← Int.natCast_mod, Int.toNat_natCast]

theorem SurveyEntry.haltReached_iff : e.haltReached t ↔ ∃ h ∈ e.halt, atOrPast t h := Iff.rfl

/-- A halt line time shortened the survey exactly when its end is no longer the natural one (R149, R150). -/
theorem SurveyEntry.shortened_iff (hp : e.params = some p) (hstop : e.endTime = some stop) (hhalt : e.halt.isSome) :
    e.shortened ↔ stop ≠ (p.start + p.cycles * p.cycle) % 864000000 := by
  simp [SurveyEntry.shortened, hp, hstop, hhalt, p.naturalEnd_eq]

theorem SurveyEntry.within_iff (hp : e.params = some p) (hstop : e.endTime = some stop) :
    e.within t ↔ (atOrPast stop p.start ∧ shifted t (-p.start) < shifted stop (-p.start)) ∧ ¬ e.haltReached t := by
  simp only [SurveyEntry.within, hp, hstop, Option.mem_some_iff, exists_eq_left', and_assoc]
  rfl

theorem SurveyEntry.waits_iff (hp : e.params = some p) :
    e.waits t ↔ (1 ≤ shifted p.start (-t) ∧ shifted p.start (-t) ≤ 432000000) ∧ ¬ e.haltReached t := by
  simp only [SurveyEntry.waits, hp, Option.mem_some_iff, exists_eq_left', and_assoc]
  rfl

theorem SurveyEntry.endReached_iff (hstop : e.endTime = some stop) : e.endReached t ↔ shifted t (-stop) ≤ 20 := by
  simp only [SurveyEntry.endReached, hstop, Option.mem_some_iff, exists_eq_left']
  rfl

/-- The adopted entry moves to where the statements place it. -/
theorem moved_eq_placed (hp : e.params = some p) (hstop : e.endTime = some stop) {left : Prop} [Decidable left]
    (hleft : e.leftByEnd m t ↔ left) : e.moved m t = surveyPlaced e p stop t left := by
  unfold SurveyEntry.moved surveyPlaced
  by_cases hreached : e.haltReached t
  · have hhalt : e.halt.isSome := by
      obtain ⟨h, hh, -⟩ := hreached
      exact Option.isSome_iff_exists.mpr ⟨h, hh⟩
    rw [if_pos hreached, if_pos (SurveyEntry.haltReached_iff.mp hreached)]
    exact if_congr (SurveyEntry.shortened_iff hp hstop hhalt) rfl rfl
  · rw [if_neg hreached, if_neg (mt SurveyEntry.haltReached_iff.mpr hreached)]
    have hwithin := (SurveyEntry.within_iff (t := t) hp hstop).trans (and_iff_left hreached)
    have hwaits := (SurveyEntry.waits_iff (t := t) hp).trans (and_iff_left hreached)
    exact if_congr hwithin rfl (if_congr hleft rfl (if_congr hwaits rfl rfl))

theorem moved_active_iff : e.moved m t = .active ↔ e.within t := by
  unfold SurveyEntry.moved
  by_cases hreached : e.haltReached t
  · have hwithin : ¬ e.within t := by
      rintro ⟨-, -, -, -, -, -, hnot⟩
      exact hnot hreached
    rw [if_pos hreached]
    split_ifs <;> simp [hwithin]
  · rw [if_neg hreached]
    split_ifs with hwithin <;> simp [hwithin]

end Placed

/-! ### The survey settled (R5, R136, R152, R153) -/

section Settled

variable {s : State} {e : SurveyEntry}

theorem setPlan_eq (s : State) (p : Plan) : s.setPlan p =
    { s with
      timer := { s.timer with plan := p }
      reg := if s.timer.plan = .steady ∧ p = .survey then surveyHeld s.reg else s.reg } := by
  unfold State.setPlan
  split_ifs <;> rfl

theorem settleSurvey_of_none (h : s.survey.adoptedEntry = none) (m : Move) :
    s.settleSurvey m = { s with timer := { s.timer with plan := .steady } } := by
  simp [State.settleSurvey, h, setPlan_eq]

/-- A settling moves the adopted entry, latches SURVEY where the entry became ACTIVE, ENDED or HALTED, and sets the executed plan. -/
theorem settleSurvey_of_adopted (h : s.survey.adoptedEntry = some e) {m : Move} {next : EntryState}
    (hnext : e.moved m s.timer.lineTime = next) : s.settleSurvey m =
    { s with
      survey := surveyMoved s e next
      port := if next ≠ e.state ∧ next ≠ .pending then latched s.port .survey else s.port
      timer := { s.timer with plan := if next = .active then .survey else .steady }
      reg := if s.timer.plan = .steady ∧ next = .active then surveyHeld s.reg else s.reg } := by
  have hlatch (x : State) (c : Prop) [Decidable c] :
      x.latchIf c .survey = { x with port := if c then latched x.port .survey else x.port } := by
    unfold State.latchIf
    split_ifs <;> rfl
  unfold State.settleSurvey
  simp only [h, hnext, hlatch, setPlan_eq]
  cases next <;> simp [State.setSurvey, Survey.update, surveyMoved]

theorem planAt_of_adopted (h : s.survey.adoptedEntry = some e) (t : Nat) :
    s.survey.planAt t = if e.within t then .survey else .steady := by
  simp only [Survey.planAt, h]

/-- The executed plan after a settling is what R5 gives. -/
theorem settleSurvey_plan (s : State) (m : Move) : (s.settleSurvey m).timer.plan = s.survey.planAt s.timer.lineTime := by
  cases h : s.survey.adoptedEntry with
  | none => rw [settleSurvey_of_none h]; simp [Survey.planAt, h]
  | some e =>
    rw [settleSurvey_of_adopted h rfl, planAt_of_adopted h]
    exact if_congr moved_active_iff rfl rfl

/-- SURVEY is latched exactly when the moved entry became ACTIVE, ENDED or HALTED. -/
theorem surveyLatched_of_moved {t : State} (h : s.survey.adoptedEntry = some e) {next : EntryState}
    (ht : t.survey = surveyMoved s e next) (p : Port) :
    surveyLatched s t p = if next ≠ e.state ∧ next ≠ .pending then latched p .survey else p := by
  have hmem : e ∈ s.survey.table := List.mem_of_find?_eq_some h
  refine if_congr ⟨?_, fun hmoved => ?_⟩ rfl rfl
  · rintro ⟨x, hx, y, hy, hid, hmoved⟩
    obtain rfl : e = x := Option.some.inj (h.symm.trans hx)
    rw [ht, surveyMoved, List.mem_map] at hy
    obtain ⟨z, -, rfl⟩ := hy
    split_ifs at hid hmoved with hz
    · exact hmoved
    · exact absurd hid hz
  · refine ⟨e, h, { e with state := next }, ?_, rfl, hmoved⟩
    rw [ht, surveyMoved, List.mem_map]
    exact ⟨e, hmem, if_pos rfl⟩

theorem surveyLatched_of_none {t : State} (h : s.survey.adoptedEntry = none) (p : Port) : surveyLatched s t p = p := by
  refine if_neg ?_
  rintro ⟨x, hx, -⟩
  rw [h] at hx
  cases hx

/-- A settling, whole, from what it makes of the survey. -/
theorem settleSurvey_eq (s : State) (m : Move) : s.settleSurvey m =
    { s with
      survey := (s.settleSurvey m).survey
      port := surveyLatched s (s.settleSurvey m) s.port
      timer := { s.timer with plan := s.survey.planAt s.timer.lineTime }
      reg := if s.timer.plan = .steady ∧ s.survey.planAt s.timer.lineTime = .survey then surveyHeld s.reg else s.reg } := by
  rw [← settleSurvey_plan s m]
  cases h : s.survey.adoptedEntry with
  | none => rw [surveyLatched_of_none h, settleSurvey_of_none h]; simp
  | some e =>
    have hsettled := settleSurvey_of_adopted (m := m) h rfl
    rw [surveyLatched_of_moved h (congrArg State.survey hsettled), hsettled]
    cases e.moved m s.timer.lineTime <;> simp

/-- An update of an identity sets its one entry. -/
theorem update_eq {v : Survey} {old : SurveyEntry} (hv : NoticeTable v.table) (hold : old ∈ v.table) (f : SurveyEntry → SurveyEntry) :
    v.update old.id f = { v with table := v.table.map fun x => if x.id = old.id then f old else x } := by
  refine congrArg (fun table => { v with table := table }) (List.map_congr_left fun x hx => ?_)
  by_cases hid : x.id = old.id
  · rw [if_pos hid, if_pos hid, hv.eq_of_id hx hold hid]
  · rw [if_neg hid, if_neg hid]

/-- The adopted entry changed, and still adopted, is the adopted entry. -/
theorem adoptedEntry_set {v : Survey} {old : SurveyEntry} (hv : NoticeTable v.table) (hold : v.adoptedEntry = some old) {e : SurveyEntry} (he : e.adopted) :
    ({ v with table := v.table.map fun x => if x.id = old.id then e else x } : Survey).adoptedEntry = some e := by
  have hmem : old ∈ v.table := List.mem_of_find?_eq_some hold
  have hadopted : old.adopted := of_decide_eq_true (List.find?_some (p := fun x : SurveyEntry => decide x.adopted) hold)
  have hfind : v.table.find? ((fun x => decide x.adopted) ∘ fun x => if x.id = old.id then e else x) = some old := by
    refine (List.find?_congr fun x hx => ?_).trans hold
    by_cases hid : x.id = old.id
    · obtain rfl := hv.eq_of_id hx hmem hid
      simp only [Function.comp_apply, if_true]
      exact decide_eq_decide.mpr ⟨fun _ => hadopted, fun _ => he⟩
    · simp only [Function.comp_apply, if_neg hid]
  rw [Survey.adoptedEntry, List.find?_map, hfind, Option.map_some, if_pos rfl]

/-- The adopted entry of a table with distinct identities, moved to PENDING or ACTIVE, is still the adopted one. -/
theorem adoptedEntry_moved (hlaw : NoticesLaw s) (h : s.survey.adoptedEntry = some e) {next : EntryState}
    (hnext : next = .pending ∨ next = .active) : (surveyMoved s e next).adoptedEntry = some { e with state := next } := by
  have htable : NoticeTable s.survey.table := ((noticesLawful_iff s).mpr hlaw).1
  have hmoved : surveyMoved s e next = _ :=
    update_eq htable (List.mem_of_find?_eq_some h) fun x => { x with state := next }
  rw [hmoved]
  exact adoptedEntry_set htable h hnext

end Settled

/-! ### SURVEY_BEGIN and SURVEY_END (R152) -/

section BeginAndEnd

variable {s : State} {e : SurveyEntry} {p : SurveyParams} {stop : Nat}

theorem exec_surveyBegin (h : s.survey.adoptedEntry = some e) (hp : e.params = some p) (hstop : e.endTime = some stop)
    (hpending : e.state = .pending) (hplace : ¬ before stop p.start)
    (hwithin : shifted s.timer.lineTime (-p.start) < shifted stop (-p.start)) (hhalt : ∀ x ∈ e.halt, before s.timer.lineTime x) :
    exec .surveyBegin s = .next
      { s with
        survey := surveyMoved s e .active
        timer := { s.timer with plan := .survey }
        reg := if s.timer.plan = .steady then surveyHeld s.reg else s.reg
        port := latched s.port .survey } := by
  have hmoved : e.moved .small s.timer.lineTime = .active := by
    refine moved_active_iff.mpr ((SurveyEntry.within_iff hp hstop).mpr ⟨⟨hplace, hwithin⟩, ?_⟩)
    rintro ⟨x, hx, hreached⟩
    exact hreached (hhalt x hx)
  have hdue : s.surveyBeginDue := ⟨e, h, hpending, hmoved⟩
  have hlatch : EntryState.active ≠ e.state ∧ EntryState.active ≠ .pending := by rw [hpending]; decide
  refine (event_of_due hdue s _).trans ?_
  rw [settleSurvey_of_adopted h hmoved, if_pos hlatch]
  simp

theorem exec_surveyEnd (h : s.survey.adoptedEntry = some e) {next : EntryState} (hmoved : e.moved .small s.timer.lineTime = next)
    (hnext : next = .ended ∨ next = .halted) :
    exec .surveyEnd s = .next
      { s with
        survey := surveyMoved s e next
        timer := { s.timer with plan := .steady }
        port := latched s.port .survey } := by
  have hdue : s.surveyEndDue := ⟨e, h, by rw [hmoved]; exact hnext⟩
  have hadopted : e.adopted := of_decide_eq_true (List.find?_some (p := fun x : SurveyEntry => decide x.adopted) h)
  have hactive : next ≠ .active := by rcases hnext with rfl | rfl <;> decide
  have hlatch : next ≠ e.state ∧ next ≠ .pending := by
    rcases hnext with rfl | rfl <;> rcases hadopted with hstate | hstate <;> rw [hstate] <;> decide
  refine (event_of_due hdue s _).trans ?_
  rw [settleSurvey_of_adopted h hmoved, if_pos hlatch]
  simp [hactive]

/-- At its end, or from a halt line time on, the adopted survey is over (R140, R152). -/
theorem moved_at_end {t h natural : Nat} (hp : e.params = some p) (hstop : e.endTime = some stop)
    (hnatural : natural = (p.start + p.cycles * p.cycle) % 864000000)
    (hend : e.state = .active ∧ (e.halt = none ∨ stop = natural) ∧ t = stop ∨ e.halt = some h ∧ atOrPast t h) :
    e.moved .small t = if e.halt = none ∨ stop = natural then .ended else .halted := by
  subst hnatural
  rw [moved_eq_placed hp hstop (left := e.leftByEnd .small t) Iff.rfl, surveyPlaced]
  rcases hend with ⟨hactive, hfull, rfl⟩ | ⟨hhalt, hreached⟩
  · have hleft : e.leftByEnd .small t := by
      refine ⟨hactive, .inr ⟨rfl, t, hstop, ?_⟩⟩
      simp [dayMod]
    rw [if_pos hfull, if_pos hleft]
    split_ifs with hreached hshort hwithin
    · obtain ⟨x, hx, -⟩ := hreached
      rcases hfull with hnone | hnatural
      · rw [hnone] at hx
        cases hx
      · exact absurd hnatural hshort
    · rfl
    · exact absurd hwithin.2 (lt_irrefl _)
    · rfl
  · have hnone : e.halt ≠ none := by rw [hhalt]; exact Option.some_ne_none h
    rw [if_pos ⟨h, hhalt, hreached⟩]
    by_cases hshort : stop = (p.start + p.cycles * p.cycle) % 864000000
    · rw [if_neg (not_not.mpr hshort), if_pos (.inr hshort)]
    · rw [if_pos hshort, if_neg (not_or.mpr ⟨hnone, hshort⟩)]

end BeginAndEnd

end Sys2Proof.Machine

/-! # Corrections and steps (R14 to R18)

What an applied correction leaves, and the pair it may open; what a step leaves, and the pair it abandons.
-/

namespace Sys2Proof.Machine

open Sys2Proof.Safety

/-! ### Line time moved (R14, R17, R76, R93) -/

section Shift

variable (s : State) (c : Int)

theorem shiftTime_eq : s.shiftTime c =
    { s with
      timer := { s.timer with lineTime := shifted s.timer.lineTime c, counted := false }
      peers := s.peers.map fun p => movedOffset p c
      link := stampMoved s.link c } := rfl

/-- The state a correction leaves before the survey: line time moved, the transmission point kept, the next epoch end kept while line
time is before it (R14). -/
def State.corrected : State :=
  { s with
    timer :=
      { s.timer with
        lineTime := shifted s.timer.lineTime c, counted := false
        nextEpochEnd := keptEpochEnd s (shifted s.timer.lineTime c) }
    peers := s.peers.map fun p => movedOffset p c
    link := stampMoved s.link c }

theorem keepEpochEnd_shiftTime : (s.shiftTime c).keepEpochEnd = s.corrected c := by
  have hahead : (s.shiftTime c).timer.epochEndAhead = s.timer.epochEndAhead := rfl
  rw [State.keepEpochEnd, hahead]
  rfl

theorem applyCorrection_eq : s.applyCorrection c = ((s.corrected c).settleSurvey .small).openAtCorrection s.timer := by
  rw [State.applyCorrection, keepEpochEnd_shiftTime]

theorem openAtCorrection_cases (x : State) (old : Timer) :
    (x.openAtCorrection old = x ∧ ∀ p, x.pairHere = some p → ¬ x.opensAtCorrection old p) ∨
      ∃ p, x.pairHere = some p ∧ x.opensAtCorrection old p ∧ x.openAtCorrection old = x.openPair p := by
  unfold State.openAtCorrection
  cases hp : x.pairHere with
  | none => exact .inl ⟨rfl, fun p hp => by cases hp⟩
  | some p =>
    by_cases hopens : x.opensAtCorrection old p
    · exact .inr ⟨p, rfl, hopens, if_pos hopens⟩
    · exact .inl ⟨if_neg hopens, fun q hq => Option.some.inj hq ▸ hopens⟩

/-- The state a correction leaves before a pair opens. -/
def State.correctedSettled : State := (s.corrected c).settleSurvey .small

theorem applyCorrection_opens (old : Timer) (hold : old = s.timer) : (s.applyCorrection c = s.correctedSettled c ∧
      ∀ p, (s.correctedSettled c).pairHere = some p → ¬ (s.correctedSettled c).opensAtCorrection old p) ∨
    ∃ p, (s.correctedSettled c).pairHere = some p ∧ (s.correctedSettled c).opensAtCorrection old p ∧
      s.applyCorrection c = (s.correctedSettled c).openPair p := by
  rw [applyCorrection_eq, hold]
  exact openAtCorrection_cases _ s.timer

/-- A pair that a correction opens leaves the survey, the executed plan and the port, and the regulator but for the drive state noted. -/
theorem applyCorrection_kept : s.applyCorrection c =
    { s.correctedSettled c with
      timer :=
        { (s.correctedSettled c).timer with
          pair := (s.applyCorrection c).timer.pair
          window := (s.applyCorrection c).timer.window
          opened := (s.applyCorrection c).timer.opened }
      acq := (s.applyCorrection c).acq
      reg := { (s.correctedSettled c).reg with driveAtOnRef := (s.applyCorrection c).reg.driveAtOnRef } } := by
  rcases applyCorrection_opens s c s.timer rfl with ⟨heq, -⟩ | ⟨p, -, -, heq⟩
  · rw [heq]
  · rw [heq, openPair_eq]
    split_ifs <;> rfl

/-- An applied correction moves line time, the offsets and a stamp in assembly, and keeps the transmission point (R14, R76, R93). -/
theorem applyCorrection_shape : s.applyCorrection c =
    { s.corrected c with
      timer :=
        { (s.corrected c).timer with
          plan := s.survey.planAt (shifted s.timer.lineTime c)
          pair := (s.applyCorrection c).timer.pair
          window := (s.applyCorrection c).timer.window
          opened := (s.applyCorrection c).timer.opened }
      acq := (s.applyCorrection c).acq
      survey := (s.applyCorrection c).survey
      reg := (s.applyCorrection c).reg
      port := (s.applyCorrection c).port } := by
  have hkept := applyCorrection_kept s c
  rw [State.correctedSettled, settleSurvey_eq] at hkept
  have hsurvey := congrArg State.survey hkept
  have hport := congrArg State.port hkept
  have hreg := congrArg State.reg hkept
  rw [hsurvey, hport, hreg]
  exact hkept

theorem applyCorrection_params : (s.applyCorrection c).params = s.params := by
  unfold State.params
  simp

/-- What an applied correction makes of the adopted survey (R152). -/
theorem applyCorrection_movesSurvey : CorrectionMovesSurvey s (s.applyCorrection c) c := by
  have hkept := applyCorrection_kept s c
  have hplan : (s.applyCorrection c).timer.plan = s.survey.planAt (shifted s.timer.lineTime c) := by rw [applyCorrection_shape]
  refine ⟨fun hnone => ?_, ?_, fun hpair => ?_, fun e p stop time next he hp hstop _ htime hnext => ?_⟩
  · have hsettled : s.correctedSettled c = { s.corrected c with timer := { (s.corrected c).timer with plan := .steady } } :=
      settleSurvey_of_none (s := s.corrected c) hnone .small
    rw [hkept, hsettled]
    exact ⟨rfl, rfl, rfl⟩
  · rw [hplan]
    have hreg := congrArg State.reg hkept
    rw [State.correctedSettled, settleSurvey_eq] at hreg
    exact hreg
  · rcases applyCorrection_opens s c s.timer rfl with ⟨heq, -⟩ | ⟨p, -, -, heq⟩
    · rw [heq, State.correctedSettled, settleSurvey_eq]
      dsimp only
      split_ifs <;> rfl
    · rw [heq, openPair_pair] at hpair
      cases hpair
  · subst htime
    have hmoved : e.moved .small (shifted s.timer.lineTime c) = next := by
      rw [hnext]
      refine moved_eq_placed hp hstop (and_congr_right fun _ => ?_)
      rw [← SurveyEntry.endReached_iff hstop]
      simp
    have hsettled : s.correctedSettled c = _ := settleSurvey_of_adopted (s := s.corrected c) he hmoved
    rw [hkept, hsettled]
    exact ⟨rfl, rfl, rfl⟩

end Shift

/-! ### The pair that a correction opens (R15) -/

section CorrectionPair

variable {s : State} {c : Int}

/-- The pair of a plan at a line time reads the parameters, the number of pairs opened and the adopted survey's identity and
parameters. -/
theorem pairAt_congr {x y : State} {plan : Plan} {t : Nat} {p : Pair} (hopened : y.timer.opened = x.timer.opened)
    (hparams : y.params = x.params)
    (hadopted : plan = .survey → ∀ e, x.survey.adoptedEntry = some e →
      ∃ f, y.survey.adoptedEntry = some f ∧ f.params = e.params ∧ f.id = e.id)
    (h : PairAt x plan t p) : PairAt y plan t p := by
  obtain ⟨hserial, off, hplaced⟩ := h
  rw [PairAt, hopened, hparams]
  refine ⟨hserial, off, hplaced.imp id ?_⟩
  rintro ⟨e, v, hplan, he, hv, hkind, hindex, hsurvey, hrest⟩
  obtain ⟨f, hf, hfparams, hfid⟩ := hadopted hplan e he
  exact ⟨f, v, hplan, hf, hfparams.trans hv, hkind, hindex, hfid ▸ hsurvey, hrest⟩

theorem surveyLatched_params (x y : State) (p : Port) : (surveyLatched x y p).params = p.params := by
  unfold surveyLatched
  split_ifs
  · exact latched_params p .survey
  · rfl

theorem correctedSettled_adopted (hlaw : NoticesLaw s) (hplan : s.survey.planAt (shifted s.timer.lineTime c) = .survey) :
    ∃ e, s.survey.adoptedEntry = some e ∧ (s.correctedSettled c).survey.adoptedEntry = some { e with state := .active } := by
  cases he : s.survey.adoptedEntry with
  | none =>
    simp only [Survey.planAt, he] at hplan
    cases hplan
  | some e =>
    rw [planAt_of_adopted he] at hplan
    have hwithin : e.within (shifted s.timer.lineTime c) := by
      by_contra hnot
      rw [if_neg hnot] at hplan
      cases hplan
    have hmoved : e.moved .small (s.corrected c).timer.lineTime = .active := moved_active_iff.mpr hwithin
    have hsettled : s.correctedSettled c = _ := settleSurvey_of_adopted (s := s.corrected c) he hmoved
    refine ⟨e, rfl, ?_⟩
    rw [hsettled]
    exact adoptedEntry_moved (s := s.corrected c) hlaw he (.inr rfl)

/-- The pair here after a correction is the pair of the executed plan at the new line time. -/
theorem pairHere_correctedSettled (hlaw : NoticesLaw s) (p : Pair) : (s.correctedSettled c).pairHere = some p ↔
    PairAt s (s.survey.planAt (shifted s.timer.lineTime c)) (shifted s.timer.lineTime c) p := by
  have hsettled : s.correctedSettled c = _ := settleSurvey_eq (s.corrected c) .small
  have hplan : (s.correctedSettled c).timer.plan = s.survey.planAt (shifted s.timer.lineTime c) := by rw [hsettled]; rfl
  have hline : (s.correctedSettled c).timer.lineTime = shifted s.timer.lineTime c := by rw [hsettled]; rfl
  have hopened : (s.correctedSettled c).timer.opened = s.timer.opened := by rw [hsettled]; rfl
  have hparams : (s.correctedSettled c).params = s.params := by
    rw [hsettled]
    exact surveyLatched_params _ _ _
  constructor
  · intro hhere
    have hat := pairAt_of_pairHere hhere
    rw [hplan, hline] at hat
    refine pairAt_congr hopened.symm hparams.symm (fun hsurvey e he => ?_) hat
    obtain ⟨f, hf, hmoved⟩ := correctedSettled_adopted hlaw hsurvey
    obtain rfl := Option.some.inj (hmoved.symm.trans he)
    exact ⟨f, hf, rfl, rfl⟩
  · intro hat
    refine pairHere_of_pairAt ?_
    rw [hplan, hline]
    refine pairAt_congr hopened hparams (fun hsurvey e he => ?_) hat
    obtain ⟨f, hf, hmoved⟩ := correctedSettled_adopted hlaw hsurvey
    obtain rfl := Option.some.inj (hf.symm.trans he)
    exact ⟨_, hmoved, rfl, rfl⟩

/-- A correction opens the pair whose on-reference window it brings line time into, when the start had not passed before (R15, log 8). -/
theorem opensAtCorrection_iff (htiming : s.align.timing.opensPairs) (p : Pair) :
    (s.correctedSettled c).opensAtCorrection s.timer p ↔ OpensAt s (shifted s.timer.lineTime c) p := by
  have hsettled : s.correctedSettled c = _ := settleSurvey_eq (s.corrected c) .small
  have hline : (s.correctedSettled c).timer.lineTime = shifted s.timer.lineTime c := by rw [hsettled]; rfl
  have halign : (s.correctedSettled c).align = s.align := by rw [hsettled]; rfl
  have hpassed : ¬ s.timer.startPassed p ↔
      before s.timer.lineTime p.onRefStart ∨ (s.timer.lineTime = p.onRefStart ∧ s.timer.counted = true) := by
    rw [Timer.startPassed, not_and_or, not_not, not_not]
  unfold State.opensAtCorrection
  rw [hline, halign, hpassed, and_iff_right htiming, and_assoc]

theorem applyCorrection_opensPair (hnone : s.timer.pair = none) (htiming : s.align.timing.opensPairs) (hlaw : NoticesLaw s) :
    CorrectionOpens s (s.applyCorrection c) := by
  have hline : (s.applyCorrection c).timer.lineTime = shifted s.timer.lineTime c := by rw [applyCorrection_shape]; rfl
  have hsettled : s.correctedSettled c = _ := settleSurvey_eq (s.corrected c) .small
  rw [CorrectionOpens, hline]
  rcases applyCorrection_opens s c s.timer rfl with ⟨heq, hnot⟩ | ⟨q, hq, hopens, heq⟩
  · refine ⟨fun p hp hat => ?_, fun _ => ?_⟩
    · exact absurd ((opensAtCorrection_iff htiming p).mpr hat) (hnot p ((pairHere_correctedSettled hlaw p).mpr hp))
    · rw [heq, hsettled]
      exact ⟨hnone, rfl, rfl⟩
  · refine ⟨fun p hp _ => ?_, fun hno => ?_⟩
    · obtain rfl : q = p := Option.some.inj (hq.symm.trans ((pairHere_correctedSettled hlaw p).mpr hp))
      rw [heq, openPair_eq, Acq.openPair, Acq.take_eq, hsettled]
      exact ⟨rfl, rfl, ⟨_, rfl, rfl, rfl, rfl, rfl⟩, fun hkind => by rw [if_pos hkind]; rfl⟩
    · exact absurd ((opensAtCorrection_iff htiming q).mp hopens) (hno q ((pairHere_correctedSettled hlaw q).mp hq))

end CorrectionPair

/-! ### Steps (R17, R18) -/

section Step

variable (s : State) (d : Int)

/-- The state a step leaves before the pair in progress and the survey: line time moved, the next epoch end set and a transmission point
drawn anew (R4, R17). -/
def State.stepped : State :=
  { s with
    timer :=
      { s.timer with
        lineTime := shifted s.timer.lineTime d, counted := false
        nextEpochEnd := some ((shifted s.timer.lineTime d / 100000 + 1) * 100000 % 864000000)
        epochWork := if s.timer.epochWork = .nothing then .nothing else .rest
        txPoint := some ((shifted s.timer.lineTime d / 100000 * 100000 + s.drawnStatusDelay) % 864000000) }
    peers := s.peers.map fun p => movedOffset p d
    link := stampMoved s.link d
    draws := s.draws + 1 }

theorem applyStep_eq : s.applyStep d = (s.stepped d).abandonPair.settleSurvey (if 0 < d then .forward else .backward) := rfl

/-- With no pair in progress a step abandons nothing. -/
theorem abandonPair_of_none (h : s.timer.pair = none) : (s.stepped d).abandonPair = s.stepped d := by
  refine if_neg ?_
  rw [Option.not_isSome_iff_eq_none]
  exact h

/-- What the abandoned pair leaves in the acquisition unit: its bank sealed ABANDONED, a pending take cancelled (R30, R37). -/
def Acq.abandoned (a : Acq) (ps : Params) : Acq :=
  match a.current with
  | none => a
  | some w => { a.sealFor w ps true with current := none, pendingTake := false }

/-- The state a step leaves once the pair is abandoned, by the state u after its reduction. -/
def State.steppedOff (u : State) : State :=
  { s.stepped d with
    timer := { (s.stepped d).timer with pair := none, window := .noWindow }
    acq :=
      { s.acq.abandoned s.params with
        seq := if SlotStarts s then 1 else 0
        slot := if SlotStarts s then some (slotZero u.drive.switchClosed) else s.acq.slot }
    drive := u.drive
    reg := u.reg
    records := u.records
    port := u.port }

/-- The reduction that a step hands over for the pair it abandons; none was gathered without a current pair. -/
def State.abandonedOut : State :=
  match s.acq.current with
  | none => atStep s d
  | some w => (atStep s d).handOver (w.abandonedReduction s.params (s.acq.truncatedIn w.bank))

theorem abandoned_slot (a : Acq) (ps : Params) : (a.abandoned ps).slot = a.slot ∧ (a.abandoned ps).slotStart = a.slotStart := by
  unfold Acq.abandoned Acq.sealFor Acq.sealBank Acq.setBank
  (repeat' split) <;> exact ⟨rfl, rfl⟩

/-- The state between the abandoned pair and the slot of the tick. -/
def State.steppedReduced : State :=
  { s.stepped d with
    timer := { (s.stepped d).timer with pair := none, window := .noWindow }
    acq := s.acq.abandoned s.params
    drive := (s.abandonedOut d).drive
    reg := (s.abandonedOut d).reg
    records := (s.abandonedOut d).records
    port := (s.abandonedOut d).port }

theorem abandonWork_of_none {x : State} (h : x.acq.current = none) : x.abandonWork = x := by
  simp only [State.abandonWork, h]

theorem abandonWork_of_some {x : State} {w : PairWork} (h : x.acq.current = some w) : x.abandonWork =
    (x.setAcq { x.acq.sealFor w x.params true with current := none, pendingTake := false }).handOver
      (w.abandonedReduction x.params (x.acq.truncatedIn w.bank)) := by
  simp only [State.abandonWork, h]

/-- The part as a step has it once no pair is in progress and SWITCH is set afresh (R18, R41). -/
def State.pairDropped : State :=
  { s.stepped d with timer := { (s.stepped d).timer with pair := none, window := .noWindow }, drive := (atStep s d).drive }

theorem refreshSwitch_stepped :
    ({ s.stepped d with timer := { (s.stepped d).timer with pair := none, window := .noWindow } } : State).refreshSwitch =
      s.pairDropped d := by
  have hswitch : switchFor s.drive.state .noWindow = decide (s.drive.state = .ramping ∨ s.drive.state = .on) := by simp [switchFor]
  unfold State.pairDropped atStep
  rw [← hswitch]
  rfl

/-- The part differs from what `atStep` says in what no reduction reads. -/
theorem pairDropped_handOver (a : Acq) (r : Reduction) : ((s.pairDropped d).setAcq a).handOver r =
    { s.pairDropped d with
      acq := a
      drive := ((atStep s d).handOver r).drive
      reg := ((atStep s d).handOver r).reg
      records := ((atStep s d).handOver r).records
      port := ((atStep s d).handOver r).port } := by
  have hstate : (s.pairDropped d).setAcq a =
      { atStep s d with
        timer :=
          { (atStep s d).timer with
            nextEpochEnd := (s.stepped d).timer.nextEpochEnd, txPoint := (s.stepped d).timer.txPoint
            epochWork := (s.stepped d).timer.epochWork, counted := (s.stepped d).timer.counted }
        acq := a
        link := (s.stepped d).link
        draws := s.draws + 1 } := rfl
  rw [hstate, handOver_elsewhere, handOver_eq]
  rfl

theorem pairDropped_abandonWork : (s.pairDropped d).abandonWork = s.steppedReduced d := by
  unfold State.steppedReduced State.abandonedOut Acq.abandoned
  cases hcurrent : s.acq.current with
  | none =>
    have hnone : (s.pairDropped d).acq.current = none := hcurrent
    rw [abandonWork_of_none hnone]
    rfl
  | some w =>
    have hsome : (s.pairDropped d).acq.current = some w := hcurrent
    rw [abandonWork_of_some hsome, pairDropped_handOver]
    rfl

theorem abandonPair_of_pair (h : s.timer.pair ≠ none) : (s.stepped d).abandonPair = s.steppedOff d (s.abandonedOut d) := by
  have habandon : (s.stepped d).abandonPair = (s.steppedReduced d).windowChanged :=
    (if_pos (Option.isSome_iff_ne_none.mpr h)).trans 
      ((congrArg (fun y : State => y.abandonWork.windowChanged) (refreshSwitch_stepped s d)).trans
        (congrArg State.windowChanged (pairDropped_abandonWork s d)))
  obtain ⟨hslot, hstart⟩ := abandoned_slot s.acq s.params
  have hstarts : SlotStarts (s.steppedReduced d) ↔ SlotStarts s := by
    rw [SlotStarts, SlotStarts, State.steppedReduced, hslot, hstart]
    rfl
  rw [habandon]
  by_cases hs : SlotStarts s
  · rw [windowChanged_of_starts (hstarts.mpr hs), State.steppedOff, if_pos hs, if_pos hs]
    rfl
  · rw [windowChanged_of_not (mt hstarts.mp hs), State.steppedOff, if_neg hs, if_neg hs, ← hslot]
    rfl

/-- The reduction and the bank of the pair that a step abandons (R30, R37). -/
theorem abandonedReduction_spec {w : PairWork} :
    AbandonedReduction s w (w.abandonedReduction s.params (s.acq.truncatedIn w.bank)) := by
  refine ⟨rfl, rfl, rfl, rfl, rfl, rfl, rfl, rfl, rfl, rfl, rfl, fun id h hbank hheader => ?_⟩
  simp [PairWork.abandonedReduction, PairWork.reduction, Acq.truncatedIn, hbank, hheader]

/-- What a step leaves besides the pair: line time, the offsets and a stamp in assembly moved, the epoch end and the transmission point
set anew (R4, R17, R76, R93). -/
theorem applyStep_shape : s.applyStep d =
    { s.stepped d with
      timer :=
        { (s.stepped d).timer with
          plan := s.survey.planAt (shifted s.timer.lineTime d)
          pair := none
          window := (s.applyStep d).timer.window }
      acq := (s.stepped d).abandonPair.acq
      drive := (s.stepped d).abandonPair.drive
      records := (s.stepped d).abandonPair.records
      survey := (s.applyStep d).survey
      reg := (s.applyStep d).reg
      port := (s.applyStep d).port } := by
  rw [applyStep_eq, settleSurvey_eq]
  by_cases h : s.timer.pair = none
  · rw [abandonPair_of_none s d h, ← h]
    rfl
  · rw [abandonPair_of_pair s d h]
    rfl

theorem applyStep_params : (s.applyStep d).params = s.params := by
  unfold State.params
  simp

theorem applyStep_redraws : StepRedraws (s.applyStep d) := by
  obtain ⟨hlow, hhigh⟩ := drawnStatusDelay_bounds s
  rw [applyStep_shape]
  exact ⟨rfl, s.drawnStatusDelay, hlow, hhigh, rfl⟩

theorem abandonPair_kept : (s.stepped d).abandonPair.survey = s.survey ∧
    (s.stepped d).abandonPair.timer.lineTime = shifted s.timer.lineTime d ∧
    (s.stepped d).abandonPair.timer.plan = s.timer.plan := by
  by_cases h : s.timer.pair = none
  · rw [abandonPair_of_none s d h]
    exact ⟨rfl, rfl, rfl⟩
  · rw [abandonPair_of_pair s d h]
    exact ⟨rfl, rfl, rfl⟩

/-- SURVEY is latched by what a step makes of the survey alone. -/
theorem surveyLatched_congr {x y t : State} (h : x.survey = y.survey) (p : Port) : surveyLatched x t p = surveyLatched y t p := by
  unfold surveyLatched
  rw [h]

theorem leftByEnd_step {e : SurveyEntry} (t : Nat) :
    e.leftByEnd (if 0 < d then .forward else .backward) t ↔ e.state = .active ∧ 0 < d := by
  by_cases h : 0 < d <;> simp [h]

/-- What a step makes of the adopted survey (R152). -/
theorem applyStep_movesSurvey : StepMovesSurvey s (s.applyStep d) d := by
  obtain ⟨hsurvey, hline, hplan⟩ := abandonPair_kept s d
  refine ⟨fun hnone => ?_, fun hpair => ?_, fun e p stop next he hp hstop _ hnext => ?_⟩
  · have hsettled := settleSurvey_of_none (s := (s.stepped d).abandonPair) (by rw [hsurvey]; exact hnone)
      (if 0 < d then .forward else .backward)
    rw [applyStep_eq, hsettled]
    exact ⟨hsurvey, rfl⟩
  · rw [applyStep_eq, abandonPair_of_none s d hpair, settleSurvey_eq]
    exact ⟨rfl, rfl⟩
  · have hmoved : e.moved (if 0 < d then .forward else .backward) (s.stepped d).abandonPair.timer.lineTime = next := by
      rw [hline, hnext]
      exact moved_eq_placed hp hstop (leftByEnd_step d _)
    have hsettled := settleSurvey_of_adopted (s := (s.stepped d).abandonPair) (by rw [hsurvey]; exact he) hmoved
    rw [applyStep_eq, hsettled]
    refine ⟨by rw [surveyMoved, surveyMoved, hsurvey], rfl, fun hchanged hpending => ?_⟩
    dsimp only
    rw [if_pos ⟨hchanged, hpending⟩]
    exact ⟨rfl, rfl⟩

theorem abandoned_kept (a : Acq) (ps : Params) : (a.abandoned ps).running = a.running ∧ (a.abandoned ps).pipe = a.pipe ∧
    (a.abandoned ps).discardFirst = a.discardFirst ∧ (a.abandoned ps).flushing = a.flushing ∧
    (a.abandoned ps).latestCurrent = a.latestCurrent := by
  unfold Acq.abandoned Acq.sealFor Acq.sealBank Acq.setBank
  (repeat' split) <;> exact ⟨rfl, rfl, rfl, rfl, rfl⟩

/-- The bank of the pair that a step abandons, sealed ABANDONED (R30, R37). -/
theorem abandoned_bank {a : Acq} {ps : Params} {w : PairWork} (hw : a.current = some w) :
    (a.abandoned ps).current = none ∧ (a.abandoned ps).pendingTake = false ∧
      (w.bank = none → (a.abandoned ps).newer = a.newer ∧ (a.abandoned ps).bankA = a.bankA ∧ (a.abandoned ps).bankB = a.bankB) ∧
      (∀ id h, w.bank = some id → (a.bank id).header = some h →
        (a.abandoned ps).newer = some id ∧ (a.abandoned ps).bank id.other = a.bank id.other ∧ (a.abandoned ps).bank id =
          { a.bank id with
            state := .sealed, header := some { h with short := decide (w.offSet.count < ps.nat 12), abandoned := true } }) := by
  have habandoned : a.abandoned ps = { a.sealFor w ps true with current := none, pendingTake := false } := by
    simp only [Acq.abandoned, hw]
  rw [habandoned, Acq.sealFor]
  refine ⟨rfl, rfl, fun hbank => ?_, fun id h hbank hheader => ?_⟩
  · rw [hbank]
    exact ⟨rfl, rfl, rfl⟩
  · rw [hbank]
    dsimp only
    rw [Acq.sealBank, hheader]
    cases id <;> exact ⟨rfl, rfl, rfl⟩

/-- What a step does to the pair in progress (R18, R30). -/
theorem applyStep_abandons (h : s.timer.pair ≠ none) : StepAbandons s (s.applyStep d) d := by
  have hstep : s.applyStep d = (s.steppedOff d (s.abandonedOut d)).settleSurvey (if 0 < d then .forward else .backward) := by
    rw [applyStep_eq, abandonPair_of_pair s d h]
  have hsettled := hstep.trans (settleSurvey_eq _ _)
  obtain ⟨hrunning, hpipe, hdiscard, hflushing, hlatest⟩ := abandoned_kept s.acq s.params
  obtain ⟨-, hstart⟩ := abandoned_slot s.acq s.params
  have hacq : (s.applyStep d).acq = (s.steppedOff d (s.abandonedOut d)).acq := by rw [hsettled]
  have hdrive : (s.applyStep d).drive = (s.abandonedOut d).drive := by rw [hsettled]; rfl
  have hrecords : (s.applyStep d).records = (s.abandonedOut d).records := by rw [hsettled]; rfl
  have hplan : (s.applyStep d).timer.plan = s.survey.planAt (shifted s.timer.lineTime d) := by rw [hsettled]; rfl
  have hport : (s.applyStep d).port = surveyLatched s (s.applyStep d) (s.abandonedOut d).port := by
    rw [hstep]
    exact congrArg State.port (settleSurvey_eq (s.steppedOff d (s.abandonedOut d)) _)
  have hreg : (s.applyStep d).reg =
      if s.timer.plan = .steady ∧ (s.applyStep d).timer.plan = .survey then surveyHeld (s.abandonedOut d).reg
      else (s.abandonedOut d).reg := by
    rw [hplan, hsettled]
    rfl
  refine ⟨by rw [hsettled]; rfl, by rw [hsettled]; rfl, hplan, fun hnot => ?_, fun hstarts => ?_, ?_, ?_, ?_, ?_, fun w hw => ?_⟩
  · rw [hacq]
    exact ⟨if_neg hnot, if_neg hnot⟩
  · rw [hacq, hdrive]
    exact ⟨if_pos hstarts, if_pos hstarts⟩
  · rw [hacq]; exact hrunning
  · rw [hacq]; exact hstart
  · rw [hacq]; exact hpipe
  · rw [hacq]; exact hdiscard
  · have hout : s.abandonedOut d = (atStep s d).handOver (w.abandonedReduction s.params (s.acq.truncatedIn w.bank)) := by
      simp only [State.abandonedOut, hw]
    obtain ⟨hcurrent, hpending, hnone, hbank⟩ := abandoned_bank (ps := s.params) hw
    rw [hacq]
    exact ⟨_, s.abandonedOut d, abandonedReduction_spec s, hout.trans (handOver_if _ _), hrecords, hdrive, hport, hreg, hcurrent,
      hpending, hflushing, hlatest, hnone, hbank⟩

end Step

/-- Settles O43: the two survey events, and the moves of a step and of a correction. -/
theorem surveyBeginAndEnd : Obligations.SurveyBeginAndEnd := by
  intro s e p stop h natural he hp hstop hstart hnatural
  refine ⟨fun hpending hplace hwithin hhalt => exec_surveyBegin he hp hstop hpending hplace hwithin hhalt, fun hend => ?_,
    fun d time next htime hnext => ?_, fun c time next htime hnext => ?_⟩
  · have hmoved := moved_at_end hp hstop hnatural hend
    refine exec_surveyEnd he hmoved ?_
    split_ifs
    · exact .inl rfl
    · exact .inr rfl
  · obtain ⟨-, -, hmoves⟩ := applyStep_movesSurvey s d
    exact hmoves e p stop next he hp hstop hstart (htime ▸ hnext)
  · obtain ⟨-, -, -, hmoves⟩ := applyCorrection_movesSurvey s c
    exact hmoves e p stop time next he hp hstop hstart htime hnext

end Sys2Proof.Machine

/-! # Epoch ends that move line time (O7, O8) -/

namespace Sys2Proof.Machine

open Sys2Proof.Safety

/-! ### The averaging correction (R103, R104) -/

section Averaging

variable (s : State)

theorem near_eq : s.syncPeers.filter (fun p => decide p.near) =
    s.peers.filter fun p => decide (SynchronizedPeer s p ∧ -200 ≤ p.offset ∧ p.offset ≤ 200) := by
  rw [State.syncPeers, List.filter_filter]
  refine List.filter_congr fun p hp => ?_
  rw [← Bool.decide_and]
  exact decide_eq_decide.mpr ⟨fun ⟨hnear, hsync⟩ => ⟨⟨hp, hsync⟩, hnear⟩,
    fun ⟨⟨_, hsync⟩, hnear⟩ => ⟨hnear, hsync⟩⟩

theorem included_eq {near : List Peer} (hnear : s.syncPeers.filter (fun p => decide p.near) = near) : s.included =
    if ∃ p ∈ near, p.timing = .anchored then near.filter (fun p => decide (p.timing = .anchored)) else near := by
  have hempty : (near.filter fun p => decide (p.timing = .anchored)).isEmpty = true ↔ ¬ ∃ p ∈ near, p.timing = .anchored := by
    rw [List.isEmpty_iff, List.filter_eq_nil_iff]
    simp
  unfold State.included
  rw [hnear]
  dsimp only
  by_cases h : ∃ p ∈ near, p.timing = .anchored
  · rw [if_pos h, if_neg fun hnil => hempty.mp hnil h]
  · rw [if_neg h, if_pos (hempty.mpr h)]

theorem averagingCorrection_eq {included : List Peer} {bound : Int} (hincluded : s.included = included)
    (hbound : bound = if s.survey.planAt s.timer.lineTime = .survey then 10 else 20) : s.averagingCorrection =
    max (-bound) (min bound (((included.map Peer.offset).sum.tdiv included.length).tdiv 2 + s.align.pendingCorr)) := by
  have hpos : -bound ≤ bound := by rw [hbound]; split_ifs <;> decide
  rw [State.averagingCorrection, hincluded, ← hbound, clamp_eq hpos]
  rfl

theorem nextLostStreak_eq {near : List Peer} (hnear : s.syncPeers.filter (fun p => decide p.near) = near) : s.nextLostStreak =
    if (∃ p ∈ s.peers, SynchronizedPeer s p) ∧ near = [] then s.align.lostStreak + 1 else 0 := by
  have hfar : near = [] ↔ ∀ p, SynchronizedPeer s p → ¬ p.near := by
    rw [← hnear, List.filter_eq_nil_iff]
    simp only [decide_eq_true_eq, mem_syncPeers]
  have hsome : (∃ p ∈ s.peers, SynchronizedPeer s p) ↔ ∃ p, SynchronizedPeer s p :=
    exists_congr fun p => and_iff_right_of_imp fun h => h.1
  by_cases h : (∃ p, SynchronizedPeer s p) ∧ ∀ p, SynchronizedPeer s p → ¬ p.near
  · rw [nextLostStreak_of_lost s h.1 h.2, if_pos ⟨hsome.mpr h.1, hfar.mpr h.2⟩]
  · rw [nextLostStreak_of_near s h, if_neg fun ⟨hs, hn⟩ => h ⟨hsome.mp hs, hfar.mp hn⟩]

theorem nextLowerStreak_eq : s.nextLowerStreak = if ∃ p ∈ s.peers, MergeCandidate s p then s.align.lowerStreak + 1 else 0 := by
  by_cases h : ∃ p ∈ s.peers, MergeCandidate s p
  · obtain ⟨p, hmem, hp⟩ := h
    rw [nextLowerStreak_of_candidate s hp, if_pos ⟨p, hmem, hp⟩]
  · rw [nextLowerStreak_of_none s h, if_neg h]

end Averaging

/-! ### The counted epoch and its correction (R14, R102 to R105) -/

section Correction

variable {s : State}

/-- An epoch counted, from what the count leaves of the next epoch end, the table and the draws. -/
theorem epochCounted_eq (s : State) (r r' : Nat) : epochCounted s r =
    { s with
      timer :=
        { s.timer with
          tally := (s.timer.tally + 1) % 65536, epochWork := .nothing
          nextEpochEnd := (epochCounted s r').timer.nextEpochEnd, txPoint := (epochCounted s r).timer.txPoint }
      peers := (epochCounted s r').peers
      draws := (epochCounted s r').draws } := by
  unfold epochCounted
  cases s.timer.epochWork <;> rfl

theorem handCorrection_of_zero {c : Int} (h : c = 0) : s.handCorrection c = s := if_pos h

theorem handCorrection_of_pair {c : Int} (hc : c ≠ 0) (h : s.timer.pair ≠ none) :
    s.handCorrection c = { s with align := { s.align with pendingCorr := c } } :=
  (if_neg hc).trans (if_pos (Option.isSome_iff_ne_none.mpr h))

theorem handCorrection_of_no_pair {c : Int} (hc : c ≠ 0) (h : s.timer.pair = none) :
    s.handCorrection c = ({ s with align := { s.align with pendingCorr := 0 } } : State).applyCorrection c :=
  (if_neg hc).trans (if_neg (by rw [h]; decide))

end Correction

/-- An epoch end in FREE or TRACKING without a merge or a lost lock hands the averaging correction (R102). -/
theorem trackingEpoch_handed {x : State} {near included : List Peer} {lower lost : Nat} {bound c : Int}
    (hnear : near = x.peers.filter (fun p => decide (SynchronizedPeer x p ∧ -200 ≤ p.offset ∧ p.offset ≤ 200)))
    (hincluded : included =
      (if ∃ p ∈ near, p.timing = .anchored then near.filter (fun p => decide (p.timing = .anchored)) else near))
    (hlower : lower = (if ∃ p ∈ x.peers, MergeCandidate x p then x.align.lowerStreak + 1 else 0)) (hlowerLt : lower < 3)
    (hlost : lost = (if (∃ p ∈ x.peers, SynchronizedPeer x p) ∧ near = [] then x.align.lostStreak + 1 else 0)) (hlostLt : lost < 6)
    (hbound : bound = (if x.survey.planAt x.timer.lineTime = .survey then 10 else 20))
    (hc : c = max (-bound) (min bound (((included.map Peer.offset).sum.tdiv included.length).tdiv 2 + x.align.pendingCorr))) :
    x.trackingEpoch = ({ x with align := { x.align with lowerStreak := lower, lostStreak := lost } } : State).handCorrection c := by
  have hnearEq : x.syncPeers.filter (fun p => decide p.near) = near := (near_eq x).trans hnear.symm
  have hlowerEq : x.nextLowerStreak = lower := (nextLowerStreak_eq x).trans hlower.symm
  have hlostEq : x.nextLostStreak = lost := (nextLostStreak_eq x hnearEq).trans hlost.symm
  have hincludedEq : x.streaked.included = included := (included_eq x.streaked hnearEq).trans hincluded.symm
  have hcorrection : x.streaked.averagingCorrection = c := (averagingCorrection_eq x.streaked hincludedEq hbound).trans hc.symm
  rw [trackingEpoch_of_kept (by rw [hlowerEq]; exact hlowerLt) (by rw [hlostEq]; exact hlostLt), hcorrection, State.streaked, hlowerEq,
    hlostEq]
  rfl

/-- Settles O7: both streaks, then the correction left out, deferred or applied. -/
theorem epochEndCorrection : Obligations.EpochEndCorrection := by
  intro s u near included lower lost bound c hend htiming hu hnear hincluded hlower hlowerLt hlost hlostLt hbound hc
  subst hu
  obtain ⟨r, hr⟩ : ∃ r, r = s.drawnStatusDelay := ⟨_, rfl⟩
  obtain ⟨hlow, hhigh⟩ := drawnStatusDelay_bounds s
  rw [← hr] at hlow hhigh
  have hx := epochCounted_eq s r 0
  have hnextEnd : (epochCounted s 0).timer.nextEpochEnd = (epochCounted s r).timer.nextEpochEnd := by rw [hx]
  have hpeers : (epochCounted s 0).peers = (epochCounted s r).peers := by rw [hx]
  have halign := epochCounted_align s r
  rw [hnextEnd, hpeers]
  rw [epochCounted_redrawn s 0 r] at hnear hlower hlost
  rw [← halign] at hc hlower hlost
  have hplanAt : s.survey.planAt s.timer.lineTime = (epochCounted s r).survey.planAt (epochCounted s r).timer.lineTime := by rw [hx]
  rw [hplanAt] at hbound
  have htracking := trackingEpoch_handed (x := epochCounted s r) hnear hincluded hlower hlowerLt hlost hlostLt hbound hc
  obtain ⟨y, hy⟩ : ∃ y : State, y =
    { epochCounted s r with align := { s.align with lowerStreak := lower, lostStreak := lost } } := ⟨_, rfl⟩
  have hexec : exec .epochEnd s = .next (y.handCorrection c) := by
    rw [exec_epochEnd hend, ← hr, alignEpoch_of_tracking (by rw [halign]; exact htiming), htracking, halign, hy]
  have hpair : y.timer.pair = s.timer.pair := by rw [hy, hx]
  refine ⟨fun hdeferred => ⟨r, _, hlow, hhigh, hexec, ?_⟩, fun hnone hne => ?_⟩
  · by_cases hzero : c = 0
    · rw [handCorrection_of_zero hzero, if_pos hzero, hy]
    · rw [handCorrection_of_pair hzero (by rw [hpair]; exact hdeferred.resolve_right hzero), if_neg hzero, hy]
  · obtain ⟨z, hz⟩ : ∃ z : State, z =
      { epochCounted s r with align := { s.align with lowerStreak := lower, lostStreak := lost, pendingCorr := 0 } } := ⟨_, rfl⟩
    have happlied : exec .epochEnd s = .next (z.applyCorrection c) := by
      rw [hexec, handCorrection_of_no_pair hne (hpair.trans hnone), hz, hy]
    have hshape := applyCorrection_shape z c
    have hmoves := applyCorrection_movesSurvey z c
    have hopens : NoticesLaw z → CorrectionOpens z (z.applyCorrection c) := fun hlaw =>
      applyCorrection_opensPair (by rw [hz, hx]; exact hnone) (by rw [hz]; exact htiming.imp id .inl) hlaw
    have hparams := applyCorrection_params z c
    have hline : (z.applyCorrection c).timer.lineTime = shifted s.timer.lineTime c := by rw [hshape, hz, hx]; rfl
    refine ⟨z.applyCorrection c, happlied, hline, ?_, ?_, ?_, ?_, ?_, ?_, ?_, ?_, hparams.trans ?_, ⟨r, hlow, hhigh, ?_⟩, ?_, ?_⟩
    · rw [hshape, hz, hx]; rfl
    · rw [hshape, hz, hx]; rfl
    · rw [hline, hshape, hz, hx]; rfl
    · rw [hshape, hz]; rfl
    · rw [hshape, hz]; rfl
    · rw [hshape, hz, hx]; rfl
    · rw [hshape, hz, hx]; rfl
    · rw [hshape, hz, hx]; rfl
    · rw [hz, hx]
    · rw [hshape, hz]; rfl
    · rw [hz, hx] at hmoves ⊢; exact hmoves
    · rw [hz, hx] at hopens ⊢; exact hopens

/-! ### The merge (R106, R107) -/

section Merge

theorem chosen_first {ps : Params} {table : List Peer} {q : Peer} (h : chosen ps table = some q) :
    q ∈ table ∧ ∀ x ∈ table, ¬ x.chosenBefore ps q := by
  induction table generalizing q with
  | nil => cases h
  | cons p rest ih =>
    unfold chosen at h
    cases hrest : chosen ps rest with
    | none =>
      rw [hrest, Option.some.injEq] at h
      subst h
      rw [chosen_none hrest]
      simp [Peer.chosenBefore]
    | some f =>
      obtain ⟨hmem, hfirst⟩ := ih hrest
      rw [hrest] at h
      dsimp only at h
      split_ifs at h with hbefore
      · obtain rfl := Option.some.inj h
        refine ⟨List.mem_cons_of_mem _ hmem, fun x hx => ?_⟩
        rcases List.mem_cons.mp hx with rfl | hx
        · simp only [Peer.chosenBefore] at hbefore ⊢
          omega
        · exact hfirst x hx
      · obtain rfl := Option.some.inj h
        refine ⟨List.mem_cons_self, fun x hx => ?_⟩
        rcases List.mem_cons.mp hx with rfl | hx
        · simp [Peer.chosenBefore]
        · have hxf := hfirst x hx
          simp only [Peer.chosenBefore] at hbefore hxf ⊢
          omega

/-- The candidate that comes before every other one is chosen. -/
theorem chosen_of_first {ps : Params} {table : List Peer} {p : Peer} (hp : p ∈ table)
    (hfirst : ∀ q ∈ table, q ≠ p → p.chosenBefore ps q) : chosen ps table = some p := by
  cases h : chosen ps table with
  | none =>
    rw [chosen_none h] at hp
    cases hp
  | some q =>
    obtain ⟨hq, hno⟩ := chosen_first h
    by_contra hne
    exact hno p hp (hfirst q hq fun heq => hne (congrArg some heq))

theorem merge_of_chosen {s : State} {p : Peer} (h : chosen s.params s.candidates = some p) :
    s.merge = { s.handStep p.offset with align := (s.handStep p.offset).align.follow p.root } := by
  simp only [State.merge, h]
  rfl

/-- What a reduction handed over leaves reads of the alignment unit the timing state and the root alone. -/
theorem handOver_realigned (x : State) (r : Reduction) (tx : Option Nat) {a : Align} (htiming : a.timing = x.align.timing)
    (hroot : a.root = x.align.root) :
    ({ x with timer := { x.timer with txPoint := tx }, align := a } : State).handOver r =
      { x.handOver r with timer := { x.timer with txPoint := tx }, align := a } := by
  have ha : a =
      { x.align with
        acquireCount := a.acquireCount, lowerStreak := a.lowerStreak, lostStreak := a.lostStreak, pendingCorr := a.pendingCorr
        lowRun := a.lowRun, armed := a.armed, highRun := a.highRun, pulseStreak := a.pulseStreak, lastPulse := a.lastPulse } := by
    dsimp only
    rw [← htiming, ← hroot]
  rw [ha]
  unfold State.handOver
  cases r.kind with
  | check => dsimp only; rw [State.regulate_eq, State.regulate_eq]; rfl
  | survey => dsimp only; rw [State.surveyReduction_eq, State.surveyReduction_eq]; rfl

/-- A step abandons a pair in the same way with other counts of the alignment unit and another transmission point. -/
theorem stepAbandons_realigned {u t : State} {d : Int} {tx : Option Nat} {a : Align} (htiming : a.timing = u.align.timing)
    (hroot : a.root = u.align.root)
    (h : StepAbandons { u with timer := { u.timer with txPoint := tx }, align := a } t d) : StepAbandons u t d := by
  obtain ⟨hpair, hwindow, hplan, hslot, hstarts, hrunning, hstart, hpipe, hdiscard, hwork⟩ := h
  refine ⟨hpair, hwindow, hplan, hslot, hstarts, hrunning, hstart, hpipe, hdiscard, fun w hw => ?_⟩
  obtain ⟨r, v, hr, hv, hrecords, hdrive, hport, hreg, hrest⟩ := hwork w hw
  rw [← handOver_if] at hv
  have hout := hv.trans (handOver_realigned (atStep u d) r tx htiming hroot)
  refine ⟨r, (atStep u d).handOver r, hr, handOver_if _ _, ?_, ?_, ?_, ?_, hrest⟩
  · rw [hrecords, hout]
  · rw [hdrive, hout]
  · rw [hport, hout]
    rfl
  · rw [hreg, hout]

end Merge

/-- Settles O8: the chosen candidate, then the step by its offset and its root. -/
theorem rootMergeStepsToChosenPeer : Obligations.RootMergeStepsToChosenPeer := by
  intro s u p hend htiming hu hstreak hcandidate hfirst
  subst hu
  obtain ⟨r, hr⟩ : ∃ r, r = s.drawnStatusDelay := ⟨_, rfl⟩
  obtain ⟨hlow, hhigh⟩ := drawnStatusDelay_bounds s
  rw [← hr] at hlow hhigh
  have halign := epochCounted_align s r
  have hx := epochCounted_eq s r 0
  have hu := epochCounted_redrawn s 0 r
  have hchosen : chosen (epochCounted s r).params (epochCounted s r).candidates = some p := by
    refine chosen_of_first ((mem_candidates _).mpr (by rw [hu] at hcandidate; exact hcandidate)) fun q hq hne => ?_
    have hbefore := hfirst q (by rw [hu]; exact (mem_candidates (epochCounted s r)).mp hq) hne
    have hparams : (epochCounted s r).params = s.params := congrArg Port.params (epochCounted_port s r)
    rw [hparams]
    exact hbefore
  have hlower : 3 ≤ (epochCounted s r).nextLowerStreak := by
    rw [nextLowerStreak_of_candidate (p := p) _ (by rw [hu] at hcandidate; exact hcandidate), halign]
    omega
  obtain ⟨a, ha, htimingA, hrootA, hkeptA⟩ : ∃ a : Align, (epochCounted s r).streaked = { epochCounted s r with align := a } ∧
      a.timing = s.align.timing ∧ a.root = s.align.root ∧ a.follow p.root = s.align.follow p.root :=
    ⟨{ (epochCounted s r).align with
        lowerStreak := (epochCounted s r).nextLowerStreak, lostStreak := (epochCounted s r).nextLostStreak },
      rfl, by rw [halign], by rw [halign], by rw [halign]; rfl⟩
  obtain ⟨y, hy⟩ : ∃ y : State, y = { epochCounted s r with align := a } := ⟨_, rfl⟩
  have hchosenY : chosen y.params y.candidates = some p := by
    have hsame : y.candidates = (epochCounted s r).candidates := by
      unfold State.candidates
      rw [hy, halign]
      dsimp only
      rw [hrootA]
    rw [hsame, hy]
    exact hchosen
  have hexec : exec .epochEnd s = .next { y.handStep p.offset with align := (y.handStep p.offset).align.follow p.root } := by
    rw [exec_epochEnd hend, ← hr, alignEpoch_of_tracking (by rw [halign]; exact htiming), trackingEpoch_of_merge hlower, ha, ← hy,
      merge_of_chosen hchosenY]
  have hshape := applyStep_shape y p.offset
  by_cases hzero : p.offset = 0
  · have hstep : y.handStep p.offset = y := if_pos hzero
    rw [hstep] at hexec
    refine ⟨_, hexec, ?_, ?_, ?_, ?_, ?_, fun hne => absurd hzero hne⟩
    · rw [hy]; exact hkeptA
    · rw [hy, hx]
    · rw [hy, hx]
    · rw [hy, hx]
    · exact fun _ => ⟨r, hlow, hhigh, by rw [hy]⟩
  · have hstep : y.handStep p.offset = y.applyStep p.offset := if_neg hzero
    rw [hstep] at hexec
    refine ⟨_, hexec, ?_, ?_, ?_, ?_, fun hno => absurd hno hzero, fun _ => ⟨?_, ?_, ?_, ?_, ?_, ?_, ?_, ?_, ?_⟩⟩
    · rw [hshape, hy]; exact hkeptA
    · rw [hshape, hy, hx]; rfl
    · rw [hshape, hy, hx]; rfl
    · exact (applyStep_params y p.offset).trans (by rw [hy, hx])
    · rw [hshape, hy, hx]; rfl
    · rw [hshape, hy, hx]; rfl
    · rw [hshape, hy, hx]; rfl
    · rw [hshape]
    · exact applyStep_redraws y p.offset
    · have hmoves := applyStep_movesSurvey y p.offset
      rw [hy, hx] at hmoves ⊢
      exact hmoves
    · rw [hshape, hy, hx]; rfl
    · intro hnone
      have hnoneY : y.timer.pair = none := by rw [hy, hx]; exact hnone
      rw [hshape, abandonPair_of_none y p.offset hnoneY, hy, hx]
      exact ⟨rfl, rfl, rfl⟩
    · intro hpair
      have habandons := applyStep_abandons y p.offset (by rw [hy, hx]; exact hpair)
      have hshapeU : y = { epochCounted s 0 with
          timer := { (epochCounted s 0).timer with txPoint := (epochCounted s r).timer.txPoint }, align := a } := by
        rw [hy, epochCounted_redrawn s r 0]
      rw [hshapeU] at habandons ⊢
      exact stepAbandons_realigned (htimingA.trans (by rw [epochCounted_align])) (hrootA.trans (by rw [epochCounted_align])) habandons

end Sys2Proof.Machine

/-! # Time pulses (O31, O32) -/

namespace Sys2Proof.Machine

open Sys2Proof.Safety

/-! ### A recognized pulse (R110, R111) -/

section Pulse

variable {s : State}

theorem exec_tpiPulse (hpart : s.port.part = .running) (harmed : s.align.armed = true) (hhigh : s.align.highRun = 2) :
    exec .tpiPulse s = .next s.pulse := event_of_due ⟨hpart, harmed, hhigh.ge⟩ s _

theorem wellSpaced_iff {a now p : Nat} {x : Align} (hlast : x.lastPulse = some a) (hp : p = (now + 4294967296 - a) % 4294967296) :
    x.wellSpaced now ↔ 9995 ≤ p ∧ p ≤ 10005 := by
  subst hp
  simp only [Align.wellSpaced, hlast, Option.mem_some_iff, exists_eq_left']
  rfl

/-- The alignment unit with a pulse taken and this pulse streak (R111). -/
def Align.pulsed (a : Align) (now streak : Nat) : Align :=
  { a with armed := false, highRun := 0, pulseStreak := streak, lastPulse := some now }

theorem takePulse_of_spaced {a : Align} {now : Nat} (h : a.wellSpaced now) :
    a.takePulse now = a.pulsed now (if a.pulseStreak < 3 then a.pulseStreak + 1 else a.pulseStreak) := by
  rw [Align.takePulse, if_pos h]
  rfl

theorem takePulse_of_not_spaced {a : Align} {now : Nat} (h : ¬ a.wellSpaced now) : a.takePulse now = a.pulsed now 1 := by
  rw [Align.takePulse, if_neg h]
  rfl

theorem pulse_of_acquire {x : Align} (hx : s.align.takePulse s.timer.elapsed = x) (h : s.align.timing = .acquire) :
    s.pulse = { s with align := x } := by
  have htiming : (s.setAlign x).align.timing = .acquire := hx ▸ h
  simp only [State.pulse, hx, htiming]
  rfl

theorem pulse_of_tracking {x : Align} (hx : s.align.takePulse s.timer.elapsed = x)
    (h : s.align.timing = .free ∨ s.align.timing = .tracking) :
    s.pulse =
      if x.pulseStreak = 3 ∧ s.params.value 5 = 1 then ({ s with align := x } : State).enterAnchor else { s with align := x } := by
  have hpermitted : (x.pulseStreak = 3 ∧ s.params.anchorPermitted = true) ↔ (x.pulseStreak = 3 ∧ s.params.value 5 = 1) := by
    rw [Params.anchorPermitted, decide_eq_true_eq]
  rcases h with h | h
  all_goals
    have htiming := (congrArg Align.timing hx).symm.trans h
    simp only [State.pulse, hx, State.setAlign_align, htiming]
    exact if_congr hpermitted rfl rfl

theorem pulse_of_anchored {x : Align} (hx : s.align.takePulse s.timer.elapsed = x) (h : s.align.timing = .anchored) :
    s.pulse = ({ s with align := x } : State).anchoredPulse (decide (s.align.wellSpaced s.timer.elapsed)) := by
  have htiming := (congrArg Align.timing hx).symm.trans h
  simp only [State.pulse, hx, State.setAlign_align, htiming]
  rfl

end Pulse

/-- Settles O31: the streak by the spacing, and no correction by the timing state. -/
theorem timePulseCounts : Obligations.TimePulseCounts := by
  intro s streak hpart harmed hhigh hbound hstreak hquiet
  have htaken : s.align.takePulse s.timer.elapsed = s.align.pulsed s.timer.elapsed streak := by
    rcases hstreak with ⟨hnone, rfl⟩ | ⟨a, d, hlast, hd, hspaced⟩
    · refine takePulse_of_not_spaced fun ⟨p, hp, _⟩ => ?_
      rw [hnone] at hp
      cases hp
    · rcases hspaced with ⟨hlow, hhigh, rfl⟩ | ⟨hout, rfl⟩
      · rw [takePulse_of_spaced ((wellSpaced_iff hlast hd).mpr ⟨hlow, hhigh⟩)]
        congr 1
        split_ifs <;> omega
      · exact takePulse_of_not_spaced fun hs => by
          have := (wellSpaced_iff hlast hd).mp hs
          omega
  rw [exec_tpiPulse hpart harmed hhigh]
  refine congrArg Host.Outcome.next ?_
  rcases hquiet with hacquire | ⟨htracking, hno⟩ | ⟨hanchored, hfar⟩
  · exact pulse_of_acquire htaken hacquire
  · rw [pulse_of_tracking htaken htracking]
    refine if_neg fun ⟨hthree, hpermitted⟩ => ?_
    exact hno.elim (fun hne => hne hthree) fun hne => hne hpermitted
  · rw [pulse_of_anchored htaken hanchored]
    have hnot : ¬ s.align.wellSpaced s.timer.elapsed := fun ⟨p, hp, hlow, hhigh⟩ => by
      have hp := hfar p hp
      simp only [ticksSince, Config.elapsedRange] at hlow hhigh
      omega
    rw [State.anchoredPulse, decide_eq_false hnot, if_neg Bool.false_ne_true]
    rfl

/-! ### Pulses that move line time (R112, R113) -/

section Moved

/-- What a pulse that hands `c` leaves, but for the alignment unit: nothing more when `c` is 0 or deferred, else a correction or a step. -/
abbrev PulseLeaves (s t : State) (byStep : Prop) (c : Int) : Prop :=
  t.timer.elapsed = s.timer.elapsed ∧ t.timer.tally = s.timer.tally ∧ t.params = s.params ∧
    (c = 0 → t = { s with align := t.align }) ∧
    (s.timer.pair ≠ none → ¬ byStep → t = { s with align := t.align }) ∧
    (s.timer.pair = none ∨ byStep →
      t.timer.lineTime = shifted s.timer.lineTime c ∧
        (c ≠ 0 → t.peers = s.peers.map (fun p => movedOffset p c) ∧ t.link = stampMoved s.link c)) ∧
    (c ≠ 0 → s.timer.pair = none → ¬ byStep →
      t.timer.nextEpochEnd = keptEpochEnd s t.timer.lineTime ∧ t.timer.epochWork = s.timer.epochWork ∧
        t.timer.txPoint = s.timer.txPoint ∧ t.drive = s.drive ∧ t.records = s.records ∧ CorrectionMovesSurvey s t c ∧
        (NoticesLaw s → CorrectionOpens s t)) ∧
    (byStep →
      StepRedraws t ∧ t.timer.epochWork = (if s.timer.epochWork = .nothing then .nothing else .rest) ∧
        t.timer.pair = none ∧ t.draws = s.draws + 1 ∧ StepMovesSurvey s t c ∧
        (s.timer.pair = none → t.drive = s.drive ∧ t.records = s.records ∧ t.acq = s.acq) ∧
        (s.timer.pair ≠ none → StepAbandons s t c))

variable {s : State} {byStep : Prop} {c : Int}

theorem pulseLeaves_unmoved (hday : s.timer.lineTime < 864000000) (hstep : byStep → c ≠ 0)
    (h : c = 0 ∨ s.timer.pair ≠ none ∧ ¬ byStep) (a : Align) : PulseLeaves s { s with align := a } byStep c := by
  have hnot : ¬ byStep := fun hs => h.elim (hstep hs) fun hpair => hpair.2 hs
  refine ⟨rfl, rfl, rfl, fun _ => rfl, fun _ _ => rfl, fun hmoves => ?_, fun hc hnone => ?_, fun hs => absurd hs hnot⟩
  · rcases h with rfl | ⟨hpair, -⟩
    · refine ⟨?_, fun hc => absurd rfl hc⟩
      rw [shifted_eq, add_zero]
      have hsame := dayMod_of_in_day (x := s.timer.lineTime) (by omega) (by omega)
      exact_mod_cast hsame.symm
    · exact absurd hmoves (not_or.mpr ⟨hpair, hnot⟩)
  · exact absurd h (not_or.mpr ⟨hc, fun hpair => hpair.1 hnone⟩)

theorem pulseLeaves_corrected {x : Align} (hc : c ≠ 0) (hpair : s.timer.pair = none) (hnot : ¬ byStep)
    (htiming : x.timing.opensPairs) (a : Align) :
    PulseLeaves s { ({ s with align := x } : State).applyCorrection c with align := a } byStep c := by
  have hshape := applyCorrection_shape { s with align := x } c
  have hmoves := applyCorrection_movesSurvey { s with align := x } c
  have hopens := fun hlaw => applyCorrection_opensPair (s := { s with align := x }) (c := c) hpair htiming hlaw
  refine ⟨by rw [hshape]; rfl, by rw [hshape]; rfl, applyCorrection_params _ c, fun hzero => absurd hzero hc,
    fun hsome => absurd hpair hsome, fun _ => ⟨by rw [hshape]; rfl, fun _ => ⟨by rw [hshape]; rfl, by rw [hshape]; rfl⟩⟩,
    fun _ _ _ => ⟨by rw [hshape]; rfl, by rw [hshape]; rfl, by rw [hshape]; rfl, by rw [hshape]; rfl, by rw [hshape]; rfl,
      hmoves, hopens⟩, fun hs => absurd hs hnot⟩

theorem pulseLeaves_stepped {x : Align} (hc : c ≠ 0) (hs : byStep) (htiming : x.timing = s.align.timing)
    (hroot : x.root = s.align.root) (a : Align) :
    PulseLeaves s { ({ s with align := x } : State).applyStep c with align := a } byStep c := by
  have hshape := applyStep_shape { s with align := x } c
  have hmoves := applyStep_movesSurvey { s with align := x } c
  refine ⟨by rw [hshape]; rfl, by rw [hshape]; rfl, applyStep_params _ c, fun hzero => absurd hzero hc,
    fun _ hnot => absurd hs hnot, fun _ => ⟨by rw [hshape]; rfl, fun _ => ⟨by rw [hshape]; rfl, by rw [hshape]; rfl⟩⟩,
    fun _ _ hnot => absurd hs hnot, fun _ => ⟨applyStep_redraws _ c, by rw [hshape]; rfl, by rw [hshape], by rw [hshape]; rfl,
      hmoves, fun hnone => ?_, fun hpair => ?_⟩⟩
  · rw [hshape, abandonPair_of_none { s with align := x } c hnone]
    exact ⟨rfl, rfl, rfl⟩
  · exact stepAbandons_realigned (tx := s.timer.txPoint) htiming hroot (applyStep_abandons { s with align := x } c hpair)

/-- A correction handed at a pulse is left out, deferred or applied, and its answer is the pending correction (R14, R16, R105). -/
theorem pulseLeaves_handCorrection {x : Align} (hday : s.timer.lineTime < 864000000) (hnot : ¬ byStep)
    (htiming : x.timing.opensPairs) (a : Align) :
    PulseLeaves s { ({ s with align := x } : State).handCorrection c with align := a } byStep c ∧
      (({ s with align := x } : State).handCorrection c).align =
        { x with pendingCorr := if c = 0 then x.pendingCorr else if s.timer.pair ≠ none then c else 0 } := by
  by_cases hzero : c = 0
  · rw [handCorrection_of_zero hzero, if_pos hzero]
    exact ⟨pulseLeaves_unmoved hday (fun hs => absurd hs hnot) (.inl hzero) a, rfl⟩
  · rw [if_neg hzero]
    by_cases hpair : s.timer.pair = none
    · rw [handCorrection_of_no_pair (s := { s with align := x }) hzero hpair, if_neg (not_not.mpr hpair)]
      exact ⟨pulseLeaves_corrected (x := { x with pendingCorr := 0 }) hzero hpair hnot htiming a, by rw [applyCorrection_shape]; rfl⟩
    · rw [handCorrection_of_pair (s := { s with align := x }) hzero hpair, if_pos hpair]
      exact ⟨pulseLeaves_unmoved hday (fun hs => absurd hs hnot) (.inr ⟨hpair, hnot⟩) a, rfl⟩

/-- Anchor entry (R112). -/
theorem enterAnchor_eq {x : Align} (c : Int) (hc : c = if 500 < |phase s.timer.lineTime| then -phase s.timer.lineTime
      else max (-20) (min 20 (-phase s.timer.lineTime))) :
    ({ s with align := x } : State).enterAnchor =
      (let y : State := if 500 < |phase s.timer.lineTime| then ({ s with align := { x with pendingCorr := 0 } } : State).handStep c
        else ({ s with align := { x with pendingCorr := 0 } } : State).handCorrection c
      { y with align := { y.align with timing := .anchored, root := 0, lowerStreak := 0, lostStreak := 0 } }) := by
  have hsize : 500 < (phase s.timer.lineTime).natAbs ↔ 500 < |phase s.timer.lineTime| := by
    rw [Int.abs_eq_natAbs]
    omega
  have hclamp : clamp (-20) 20 (-phase s.timer.lineTime) = max (-20) (min 20 (-phase s.timer.lineTime)) :=
    clamp_eq (by decide) _
  by_cases h : 500 < |phase s.timer.lineTime|
  · rw [if_pos h] at hc ⊢
    rw [State.enterAnchor, hc]
    exact congrArg (fun y : State => y.setAlign { y.align with timing := .anchored, root := 0, lowerStreak := 0, lostStreak := 0 })
      (if_pos (hsize.mpr h))
  · rw [if_neg h] at hc ⊢
    rw [State.enterAnchor, hc, ← hclamp]
    exact congrArg (fun y : State => y.setAlign { y.align with timing := .anchored, root := 0, lowerStreak := 0, lostStreak := 0 })
      (if_neg (mt hsize.mp h))

end Moved

/-- Settles O32: the correction of a pulse in ANCHORED, and the step or correction of an anchor entry. -/
theorem anchorPulses : Obligations.AnchorPulses := by
  intro s a d ph c pend taken hpart harmed hhigh hday hlast hd hlow hhighD hphase hcase
  have hph : phase s.timer.lineTime = ph := hphase.symm
  obtain ⟨byStep, hbyStep⟩ : ∃ q : Prop, q = (s.align.timing ≠ .anchored ∧ 500 < |ph|) := ⟨_, rfl⟩
  have hcorr : (s.align.timing = .anchored ∨ |ph| ≤ 500) ↔ ¬ byStep := by rw [hbyStep, not_and_or, not_not, not_lt]
  have hspaced : s.align.wellSpaced s.timer.elapsed := (wellSpaced_iff hlast hd).mpr ⟨hlow, hhighD⟩
  have htaken := takePulse_of_spaced hspaced
  suffices hpulse : PulseLeaves s s.pulse byStep c ∧ s.pulse.align =
      { taken with
        armed := false, highRun := 0, lastPulse := some s.timer.elapsed
        pendingCorr :=
          if c = 0 then pend else if s.timer.pair ≠ none ∧ (s.align.timing = .anchored ∨ |ph| ≤ 500) then c else 0 } by
    obtain ⟨⟨helapsed, htally, hparams, hzero, hdeferred, hline, hcorrected, hstepped⟩, halign⟩ := hpulse
    exact ⟨s.pulse, exec_tpiPulse hpart harmed hhigh, helapsed, htally, hparams, halign, hzero,
      fun hpair hc => hdeferred hpair (hcorr.mp hc), fun hmoves => hline (hmoves.imp id fun hs => hbyStep ▸ hs),
      fun hne hnone hc => hcorrected hne hnone (hcorr.mp hc),
      fun hnot hbig => hstepped (hbyStep ▸ ⟨hnot, hbig⟩)⟩
  rcases hcase with ⟨hanchored, rfl, hc, rfl⟩ | ⟨htracking, hstreak, hpermitted, rfl, hc, rfl⟩
  · have hnot : ¬ byStep := hcorr.mp (.inl hanchored)
    have hclamp : clamp (-20) 20 (-ph + s.align.pendingCorr) = c := (clamp_eq (by decide) _).trans hc.symm
    obtain ⟨x, hx⟩ : ∃ x, x = s.align.takePulse s.timer.elapsed := ⟨_, rfl⟩
    have hpulse : s.pulse = ({ s with align := x } : State).handCorrection c := by
      have hpend : x.pendingCorr = s.align.pendingCorr := by rw [hx]; rfl
      rw [pulse_of_anchored hx.symm hanchored, State.anchoredPulse, decide_eq_true hspaced, if_pos rfl]
      dsimp only
      rw [hph, hpend, hclamp]
    have hcond : (s.timer.pair ≠ none ∧ (s.align.timing = .anchored ∨ |ph| ≤ 500)) = (s.timer.pair ≠ none) :=
      propext (and_iff_left (.inl hanchored))
    have htiming : x.timing.opensPairs := by rw [hx]; exact .inr (.inr hanchored)
    obtain ⟨hleaves, halign⟩ := pulseLeaves_handCorrection (c := c) hday hnot htiming
      (({ s with align := x } : State).handCorrection c).align
    rw [hpulse, halign]
    refine ⟨hleaves, ?_⟩
    simp only [hcond]
    rw [hx, htaken]
    rfl
  · have hthree : (if s.align.pulseStreak < 3 then s.align.pulseStreak + 1 else s.align.pulseStreak) = 3 := by
      split_ifs <;> omega
    rw [hthree] at htaken
    obtain ⟨x, hx⟩ : ∃ x, x = { s.align.pulsed s.timer.elapsed 3 with pendingCorr := 0 } := ⟨_, rfl⟩
    have hnotAnchored : s.align.timing ≠ .anchored := by rcases htracking with h | h <;> rw [h] <;> decide
    have hpulse : s.pulse = _ := (pulse_of_tracking htaken htracking).trans ((if_pos ⟨rfl, hpermitted⟩).trans
      (enterAnchor_eq c (by rw [hph]; exact hc)))
    rw [hph] at hpulse
    by_cases hbig : 500 < |ph|
    · have hs : byStep := hbyStep ▸ ⟨hnotAnchored, hbig⟩
      have hne : c ≠ 0 := by
        rw [hc, if_pos hbig]
        rintro hzero
        rw [neg_eq_zero.mp hzero] at hbig
        exact absurd hbig (by decide)
      have hstepped : s.pulse = { ({ s with align := x } : State).applyStep c with
          align := { x with timing := .anchored, root := 0, lowerStreak := 0, lostStreak := 0 } } := by
        have hstep : ({ s with align := x } : State).handStep c = ({ s with align := x } : State).applyStep c := if_neg hne
        have halign : (({ s with align := x } : State).applyStep c).align = x := by rw [applyStep_shape]; rfl
        rw [hpulse, if_pos hbig, ← hx, hstep]
        dsimp only
        rw [halign]
      have hcond : ¬ (s.timer.pair ≠ none ∧ (s.align.timing = .anchored ∨ |ph| ≤ 500)) := fun h => hcorr.mp h.2 hs
      rw [hstepped, if_neg hne, if_neg hcond]
      exact ⟨pulseLeaves_stepped hne hs (by rw [hx]; rfl) (by rw [hx]; rfl) _, by rw [hx]; rfl⟩
    · have hnot : ¬ byStep := hcorr.mp (.inr (not_lt.mp hbig))
      have hcond : (s.timer.pair ≠ none ∧ (s.align.timing = .anchored ∨ |ph| ≤ 500)) = (s.timer.pair ≠ none) :=
        propext (and_iff_left (.inr (not_lt.mp hbig)))
      have htiming : x.timing.opensPairs := by rw [hx]; exact htracking.imp id .inl
      obtain ⟨hleaves, halign⟩ := pulseLeaves_handCorrection (c := c) hday hnot htiming
        { (({ s with align := x } : State).handCorrection c).align with timing := .anchored, root := 0, lowerStreak := 0, lostStreak := 0 }
      have hpend : x.pendingCorr = 0 := by rw [hx]
      rw [hpulse, if_neg hbig, ← hx]
      refine ⟨hleaves, ?_⟩
      dsimp only
      simp only [hcond]
      rw [halign, hpend, hx]
      rfl

end Sys2Proof.Machine

/-! # STATUS frames at the peer table (O38 to O40) -/

namespace Sys2Proof.Machine

open Sys2Proof.Safety

/-! ### Admission, by what the table holds (R82 to R88) -/

section Admission

variable {s : State} {f : Status} {stamp : Nat} {table : List Peer} {p q : Peer}

theorem peerOf_eq (f : Status) (stamp : Nat) (s : State) (heard : Nat) : peerOf f stamp s heard = writtenEntry s f stamp heard := rfl

theorem mem_removePeer {station : Nat} : p ∈ removePeer station table ↔ p ∈ table ∧ p.station ≠ station := by
  simp [removePeer]

/-- In a table of distinct stations an entry is known by its station. -/
theorem PeerTable.eq_of_station {own : Nat} (h : PeerTable own table) (hp : p ∈ table) (hq : q ∈ table)
    (hstation : p.station = q.station) : p = q := List.inj_on_of_nodup_map h.distinct hp hq hstation

theorem PeerTable.removePeer_perm {own : Nat} (h : PeerTable own table) (hq : q ∈ table) :
    (q :: removePeer q.station table).Perm table := by
  have hnodup : table.Nodup := h.distinct.of_map
  have hnot : q ∉ removePeer q.station table := fun hmem => (mem_removePeer.mp hmem).2 rfl
  refine (List.perm_ext_iff_of_nodup (List.nodup_cons.mpr ⟨hnot, hnodup.filter _⟩) hnodup).mpr fun x => ?_
  rw [List.mem_cons, mem_removePeer]
  refine ⟨fun hx => hx.elim (fun heq => heq ▸ hq) And.left, fun hx => ?_⟩
  by_cases hstation : x.station = q.station
  · exact .inl (h.eq_of_station hx hq hstation)
  · exact .inr ⟨hx, hstation⟩

theorem insertPeer_length : (insertPeer p table).length = table.length + 1 := (insertPeer_perm p table).length_eq

/-- The table after an entry joins what is left of a lawful one. -/
theorem tableOf_insert {own : Nat} (h : PeerTable own table) {left : List Peer} (hleft : left.Sublist table)
    (hnew : ∀ q ∈ left, q.station ≠ p.station) {rest : Peer → Prop} (hrest : ∀ q, q ∈ left ↔ rest q) :
    TableOf (insertPeer p left) p rest :=
  ⟨insertPeer_order (h.sublist hleft).order hnew, fun q => mem_insertPeer.trans (or_congr_right (hrest q))⟩

theorem findPeer_of_mem {own : Nat} (h : PeerTable own table) (hq : q ∈ table) : findPeer q.station table = some q := by
  cases hfind : findPeer q.station table with
  | none => exact absurd rfl (findPeer_none hfind q hq)
  | some x =>
    obtain ⟨hx, hstation⟩ := findPeer_some hfind
    rw [h.eq_of_station hx hq hstation]

theorem findPeer_of_new {station : Nat} (h : ∀ q ∈ table, q.station ≠ station) : findPeer station table = none := by
  cases hfind : findPeer station table with
  | none => rfl
  | some x =>
    obtain ⟨hx, hstation⟩ := findPeer_some hfind
    exact absurd hstation (h x hx)

/-- Past the own number and the hearing span, the table decides. -/
theorem admission_of_heard (hown : f.station ≠ s.params.nat 1) (hspan : span s f.chainage ≤ s.params.nat 3) :
    admission f stamp s =
      match findPeer f.station s.peers with
      | some old =>
        .admitted (insertPeer (writtenEntry s f stamp (if old.heardCount < 255 then old.heardCount + 1 else old.heardCount))
          (removePeer f.station s.peers))
          (writtenEntry s f stamp (if old.heardCount < 255 then old.heardCount + 1 else old.heardCount))
      | none =>
        if s.peers.length < 8 then .admitted (insertPeer (writtenEntry s f stamp 1) s.peers) (writtenEntry s f stamp 1)
        else
          match farthest s.params s.peers with
          | some q =>
            if span s f.chainage < span s q.chainage then
              .admitted (insertPeer (writtenEntry s f stamp 1) (removePeer q.station s.peers)) (writtenEntry s f stamp 1)
            else .discarded
          | none => .discarded :=
  (if_neg hown).trans (if_neg hspan.not_gt)

variable (hlaw : PeersLaw s) (hown : f.station ≠ s.params.nat 1) (hspan : span s f.chainage ≤ s.params.nat 3)

include hlaw hown hspan

theorem admission_of_known {old : Peer} (hold : old ∈ s.peers) (hstation : old.station = f.station) :
    ∃ table, admission f stamp s = .admitted table
        (writtenEntry s f stamp (if old.heardCount < 255 then old.heardCount + 1 else old.heardCount)) ∧
      table.length = s.peers.length ∧
      TableOf table (writtenEntry s f stamp (if old.heardCount < 255 then old.heardCount + 1 else old.heardCount))
        (fun q => q ∈ s.peers ∧ q.station ≠ f.station) := by
  have htable := (peerTable_iff s).mpr hlaw
  have hfind : findPeer f.station s.peers = some old := hstation ▸ findPeer_of_mem htable hold
  refine ⟨insertPeer (writtenEntry s f stamp (if old.heardCount < 255 then old.heardCount + 1 else old.heardCount))
    (removePeer f.station s.peers), ?_, ?_, ?_⟩
  · rw [admission_of_heard hown hspan, hfind]
  · rw [insertPeer_length, ← hstation]
    exact (htable.removePeer_perm hold).length_eq
  · exact tableOf_insert (left := removePeer f.station s.peers) htable List.filter_sublist (fun q hq => removePeer_station hq)
      fun q => mem_removePeer

theorem admission_of_room (hnew : ∀ q ∈ s.peers, q.station ≠ f.station) (hroom : s.peers.length < 8) :
    ∃ table, admission f stamp s = .admitted table (writtenEntry s f stamp 1) ∧ table.length = s.peers.length + 1 ∧
      TableOf table (writtenEntry s f stamp 1) (fun q => q ∈ s.peers) := by
  refine ⟨_, ?_, insertPeer_length, tableOf_insert ((peerTable_iff s).mpr hlaw) (.refl _) hnew fun q => Iff.rfl⟩
  rw [admission_of_heard hown hspan, findPeer_of_new hnew, if_pos hroom]

theorem admission_of_farther (hnew : ∀ q ∈ s.peers, q.station ≠ f.station) (hfull : s.peers.length = 8)
    (hfar : farthest s.params s.peers = some q) (hfarther : span s f.chainage < span s q.chainage) :
    ∃ table, admission f stamp s = .admitted table (writtenEntry s f stamp 1) ∧ table.length = 8 ∧
      TableOf table (writtenEntry s f stamp 1) (fun p => p ∈ s.peers ∧ p ≠ q) := by
  have htable := (peerTable_iff s).mpr hlaw
  have hq := farthest_mem hfar
  refine ⟨insertPeer _ (removePeer q.station s.peers), ?_, ?_, tableOf_insert htable List.filter_sublist
    (fun p hp => hnew p (mem_removePeer.mp hp).1) fun p => mem_removePeer.trans (and_congr_right fun hp => not_congr ?_)⟩
  · rw [admission_of_heard hown hspan, findPeer_of_new hnew, if_neg (by omega), hfar]
    exact if_pos hfarther
  · rw [insertPeer_length]
    exact (htable.removePeer_perm hq).length_eq.trans hfull
  · exact ⟨fun hstation => htable.eq_of_station hp hq hstation, fun heq => by rw [heq]⟩

omit hlaw in
theorem admission_of_nearest (hnew : ∀ q ∈ s.peers, q.station ≠ f.station) (hfull : s.peers.length = 8)
    (hfar : farthest s.params s.peers = some q) (hnearer : span s q.chainage ≤ span s f.chainage) :
    admission f stamp s = .discarded := by
  rw [admission_of_heard hown hspan, findPeer_of_new hnew, if_neg (by omega), hfar]
  exact if_neg hnearer.not_gt

end Admission

/-! ### The farthest entry (R88) -/

section Farthest

variable {ps : Params} {table : List Peer} {q : Peer}

theorem farthest_none (h : farthest ps table = none) : table = [] := by
  cases table with
  | nil => rfl
  | cons p rest =>
    rw [farthest] at h
    split at h
    · cases h
    · split_ifs at h

theorem farthest_first (h : farthest ps table = some q) : ∀ p ∈ table, ¬ p.farther ps q := by
  induction table generalizing q with
  | nil => cases h
  | cons p rest ih =>
    rw [farthest] at h
    intro x hx
    cases hrest : farthest ps rest with
    | none =>
      rw [hrest, Option.some.injEq] at h
      rw [farthest_none hrest, List.mem_singleton] at hx
      rw [hx, h, Peer.farther]
      omega
    | some y =>
      rw [hrest] at h
      dsimp only at h
      split_ifs at h with hfarther
      · obtain rfl := Option.some.inj h
        rcases List.mem_cons.mp hx with rfl | hx
        · rw [Peer.farther]
          omega
        · have hxy := ih hrest x hx
          rw [Peer.farther] at hxy hfarther ⊢
          omega
      · obtain rfl := Option.some.inj h
        rcases List.mem_cons.mp hx with rfl | hx
        · exact hfarther
        · exact ih hrest x hx

/-- The entry of greatest distance, and of highest station number at that distance, is the farthest. -/
theorem farthest_of_greatest {own : Nat} (h : PeerTable own table) (hq : q ∈ table)
    (hgreatest : ∀ p ∈ table, distance ps p.chainage < distance ps q.chainage ∨
      (distance ps p.chainage = distance ps q.chainage ∧ p.station ≤ q.station)) : farthest ps table = some q := by
  cases hfar : farthest ps table with
  | none =>
    rw [farthest_none hfar] at hq
    cases hq
  | some x =>
    have hx := farthest_mem hfar
    have hnot := farthest_first hfar q hq
    have hle := hgreatest x hx
    rw [Peer.farther] at hnot
    rw [h.eq_of_station hx hq (by omega)]

end Farthest

/-! ### A STATUS frame that arrives (R79, R89, R100) -/

section StatusFrames

variable {s : State} {body : List Byte} {crc : Word16} {stamp : Nat} {f : Status} {table : List Peer} {p : Peer}

/-- The part with its receiver back in HUNT (R75). -/
abbrev State.hunts (s : State) : State := { s with link := hunting s.link }

theorem exec_statusFrame (h : FrameArrives s body crc stamp) (hf : parseAir body = some (.status f)) :
    exec (.frameComplete body crc) s = .next (s.hunts.takeStatus f stamp) := by
  obtain ⟨htaken, hcrc⟩ := h
  have hmatches : ¬ crc16 (airCovered body) ≠ crc := not_not.mpr hcrc.symm
  rw [exec_frameComplete htaken, State.examine, if_neg hmatches, hf]
  rfl

theorem takeStatus_of_admitted {x : State} (h : admission f stamp x = .admitted table p) :
    x.takeStatus f stamp = ({ x with peers := table } : State).entryTaken p := by
  simp only [State.takeStatus, h]
  rfl

theorem entryTaken_of_kept {x : State} (h : x.align.timing ≠ .acquire ∨ ¬ p.adoptable) : x.entryTaken p = x :=
  if_neg fun ⟨hacquire, hadoptable⟩ => h.elim (fun hne => hne hacquire) fun hno => hno hadoptable

theorem entryTaken_of_adopted {x : State} (h : x.align.timing = .acquire) (hp : p.adoptable) : x.entryTaken p =
    { x.handStep p.offset with align := (x.handStep p.offset).align.follow p.root } := if_pos ⟨h, hp⟩

theorem not_adoptable {heard : Nat} (h : f.planTag ≠ s.port.planTag ∨ f.timing = .acquire) :
    ¬ (writtenEntry s f stamp heard).adoptable := by
  rintro ⟨hmatch, hopens⟩
  rcases h with htag | htiming
  · exact htag (of_decide_eq_true hmatch)
  · rcases hopens with h | h | h <;> exact absurd (htiming.symm.trans h) (by decide)

/-- An admitted frame that adopts nothing leaves the table alone changed. -/
theorem exec_statusFrame_kept {heard : Nat} (h : FrameArrives s body crc stamp) (hf : parseAir body = some (.status f))
    (hadmitted : admission f stamp s.hunts = .admitted table (writtenEntry s f stamp heard))
    (hkept : s.align.timing ≠ .acquire ∨ f.planTag ≠ s.port.planTag ∨ f.timing = .acquire) :
    exec (.frameComplete body crc) s = .next { s with link := hunting s.link, peers := table } := by
  have hnone : ({ s.hunts with peers := table } : State).entryTaken (writtenEntry s f stamp heard) = { s.hunts with peers := table } :=
    entryTaken_of_kept (hkept.imp id not_adoptable)
  rw [exec_statusFrame h hf, takeStatus_of_admitted hadmitted, hnone]

end StatusFrames

/-- Settles O38: the checks of R82 and R83, then the entry written afresh or inserted. -/
theorem statusFrameAdmission : Obligations.StatusFrameAdmission := by
  intro s body crc stamp f harrives hf
  refine ⟨fun hown => ?_, fun hown hfar => ?_, fun hown hspan hlaw hkept => ⟨fun old hold hstation => ?_, fun hnew hroom => ?_⟩⟩
  · have hadmission : admission f stamp s.hunts = .duplicate := if_pos hown
    rw [exec_statusFrame harrives hf, State.takeStatus, hadmission]
    rfl
  · have hadmission : admission f stamp s.hunts = .outOfSpan := (if_neg hown).trans (if_pos hfar)
    rw [exec_statusFrame harrives hf, State.takeStatus, hadmission]
    rfl
  · obtain ⟨table, hadmitted, hlength, htable⟩ := admission_of_known (s := s.hunts) (stamp := stamp) hlaw hown hspan hold hstation
    exact ⟨table, exec_statusFrame_kept harrives hf hadmitted hkept, hlength, htable⟩
  · obtain ⟨table, hadmitted, hlength, htable⟩ := admission_of_room (s := s.hunts) (stamp := stamp) hlaw hown hspan hnew hroom
    exact ⟨table, exec_statusFrame_kept harrives hf hadmitted hkept, hlength, htable⟩

/-- Settles O39: the farthest entry against the sender. -/
theorem fullTableReplacesFarthest : Obligations.FullTableReplacesFarthest := by
  intro s body crc stamp f q harrives hf hlaw hfull hown hspan hnew hq hgreatest
  have hfar : farthest s.params s.peers = some q := farthest_of_greatest ((peerTable_iff s).mpr hlaw) hq hgreatest
  refine ⟨fun hfarther => ?_, fun hnearer => ?_⟩
  · obtain ⟨table, hadmitted, hlength, htable⟩ :=
      admission_of_farther (s := s.hunts) (stamp := stamp) hlaw hown hspan hnew hfull hfar hfarther
    exact ⟨⟨table, hadmitted, hlength, htable⟩,
      fun hkept => ⟨table, exec_statusFrame_kept harrives hf hadmitted hkept, hlength, htable⟩⟩
  · have hdiscarded := admission_of_nearest (s := s.hunts) (stamp := stamp) hown hspan hnew hfull hfar hnearer
    rw [exec_statusFrame harrives hf, State.takeStatus, hdiscarded]

/-- Settles O40: the entry written, then the step by its offset and its root. -/
theorem adoptionSteps : Obligations.AdoptionSteps := by
  intro s body crc stamp f p heard rest harrives hf hlaw hown hspan hcase hacquire htag htiming hp
  have hadmission : ∃ table, admission f stamp s.hunts = .admitted table p ∧ TableOf table p rest := by
    subst hp
    rcases hcase with ⟨hnew, hroom, rfl, rfl⟩ | ⟨old, hold, hstation, rfl, rfl⟩ |
      ⟨hnew, hfull, rfl, far, hfar, hgreatest, hfarther, rfl⟩
    · obtain ⟨table, hadmitted, -, htable⟩ := admission_of_room (s := s.hunts) (stamp := stamp) hlaw hown hspan hnew hroom
      exact ⟨table, hadmitted, htable⟩
    · obtain ⟨table, hadmitted, -, htable⟩ := admission_of_known (s := s.hunts) (stamp := stamp) hlaw hown hspan hold hstation
      exact ⟨table, hadmitted, htable⟩
    · obtain ⟨table, hadmitted, -, htable⟩ := admission_of_farther (s := s.hunts) (stamp := stamp) hlaw hown hspan hnew hfull
        (farthest_of_greatest ((peerTable_iff s).mpr hlaw) hfar hgreatest) hfarther
      exact ⟨table, hadmitted, htable⟩
  obtain ⟨table, hadmitted, htable⟩ := hadmission
  obtain ⟨y, hy⟩ : ∃ y : State, y = { s with link := hunting s.link, peers := table } := ⟨_, rfl⟩
  have hadoptable : p.adoptable := by
    rw [hp]
    exact ⟨decide_eq_true htag, htiming⟩
  have hexec : exec (.frameComplete body crc) s =
      .next { y.handStep p.offset with align := (y.handStep p.offset).align.follow p.root } := by
    rw [exec_statusFrame harrives hf, takeStatus_of_admitted hadmitted, ← entryTaken_of_adopted (by rw [hy]; exact hacquire) hadoptable,
      hy]
  have hroot : p.root = f.root := by rw [hp]; rfl
  have hshape := applyStep_shape y p.offset
  by_cases hzero : p.offset = 0
  · have hstep : y.handStep p.offset = y := if_pos hzero
    rw [hstep, hroot] at hexec
    refine ⟨_, table, hexec, htable, ?_, ?_, ?_, ?_, ?_, fun hne => absurd hzero hne⟩
    · rw [hy]; rfl
    · rw [hy]
    · rw [hy]
    · rw [hy]
    · intro _; rw [hy]
  · have hstep : y.handStep p.offset = y.applyStep p.offset := if_neg hzero
    rw [hstep, hroot] at hexec
    refine ⟨_, table, hexec, htable, ?_, ?_, ?_, ?_, fun hno => absurd hno hzero,
      fun _ => ⟨?_, ?_, ?_, ?_, ?_, ?_, ?_, ?_, ?_, ?_, ?_⟩⟩
    · rw [hshape, hy]; rfl
    · rw [hshape, hy]; rfl
    · rw [hshape, hy]; rfl
    · exact (applyStep_params y p.offset).trans (by rw [hy])
    · rw [hshape, hy]; rfl
    · rw [hshape, hy]; rfl
    · simp [movedOffset]
    · exact applyStep_redraws y p.offset
    · rw [hshape, hy]; rfl
    · rw [hshape]
    · rw [hshape, hy]; rfl
    · have hmoves := applyStep_movesSurvey y p.offset
      rw [hy] at hmoves ⊢
      exact hmoves
    · rw [hshape, hy]; rfl
    · intro hnone
      rw [hshape, abandonPair_of_none y p.offset (by rw [hy]; exact hnone), hy]
      exact ⟨rfl, rfl, rfl⟩
    · intro hpair
      have habandons := applyStep_abandons y p.offset (by rw [hy]; exact hpair)
      rw [hy] at habandons ⊢
      exact habandons

end Sys2Proof.Machine

/-! # Survey commands and survey notices (O41, O42, O44) -/

namespace Sys2Proof.Machine

open Sys2Proof.Safety

/-! ### The notice table as the statements write it (R139, R141) -/

section Table

theorem dropOldest_eq_eraseP (table : List SurveyEntry) :
    dropOldest table = table.eraseP fun e => decide (¬ (e.state = .pending ∨ e.state = .active)) := by
  induction table with
  | nil => rfl
  | cons e rest ih =>
    rw [dropOldest]
    by_cases h : e.adopted
    · rw [if_pos h, List.eraseP_cons_of_neg (by simpa only [decide_eq_true_eq, not_not] using h), ih]
    · rw [if_neg h, List.eraseP_cons_of_pos (by simpa only [decide_eq_true_eq] using h)]

theorem Survey.roomFor_eq (v : Survey) : v.roomFor = Safety.roomFor v.table := by
  rw [Survey.roomFor, dropOldest_eq_eraseP]
  rfl

/-- A new entry joins at the end of a table that has room for it. -/
theorem Survey.add_eq (v : Survey) (e : SurveyEntry) : v.add e = { v with table := Safety.roomFor v.table ++ [e] } := by
  rw [← v.roomFor_eq]
  rfl

end Table

/-! ### SURVEY START and SURVEY HALT (R142, R143, R149) -/

section Commands

variable {s : State} {a : SurveyArgs} {e : SurveyEntry}

/-- An accepted SURVEY START (R143, R153). -/
theorem acceptSurvey_eq {p : SurveyParams} {id : SurveyId} (hid : id = { origin := s.params.nat 1, seq := (s.survey.ownSeq + 1) % 256 })
    {q : SurveyParams} (hq : q = { p with start := (s.timer.lineTime / 100000 + a.lead) * 100000 % 864000000 }) :
    s.acceptSurvey p a =
      { s with
        survey :=
          { table := roomFor (s.survey.table.filter fun e => decide (e.id ≠ id)) ++ [startedEntry id q a s.timer.tally]
            ownSeq := id.seq }
        port := latched s.port .survey } := by
  subst hid hq
  unfold State.acceptSurvey
  dsimp only
  rw [Survey.add_eq]
  rfl

theorem haltSurvey_of_none (h : s.survey.adoptedEntry = none) : s.haltSurvey = (s, .state) := by
  simp only [State.haltSurvey, h]

theorem haltSurvey_of_foreign (h : s.survey.adoptedEntry = some e) (horigin : e.id.origin ≠ s.params.nat 1) :
    s.haltSurvey = (s, .origin) := by
  simp only [State.haltSurvey, h]
  exact if_pos horigin

theorem haltSurvey_of_halted (h : s.survey.adoptedEntry = some e) (horigin : e.id.origin = s.params.nat 1) (hhalt : e.halt ≠ none) :
    s.haltSurvey = (s, .state) := by
  simp only [State.haltSurvey, h]
  exact (if_neg (not_not.mpr horigin)).trans (if_pos (Option.isSome_iff_ne_none.mpr hhalt))

theorem haltSurvey_of_own (h : s.survey.adoptedEntry = some e) (horigin : e.id.origin = s.params.nat 1) (hhalt : e.halt = none) :
    s.haltSurvey = (s.setSurvey (s.survey.update e.id fun x =>
      { x.takeHalt ((s.timer.lineTime / 100000 + 2) * 100000 % 864000000) with relay := .halt, copiesLeft := 3 }), .ok) := by
  simp only [State.haltSurvey, h]
  exact (if_neg (not_not.mpr horigin)).trans (if_neg (by rw [hhalt]; decide))

end Commands

/-- Settles O44: each check in its order, then the entry made or halted. -/
theorem surveyCommands : Obligations.SurveyCommands := by
  intro s a d id p h hpart hport hid
  have hstartAllowed : (PortCommand.surveyStart a).allowedIn s.port.part = true := by rw [hpart]; rfl
  have hhaltAllowed : PortCommand.surveyHalt.allowedIn s.port.part = true := by rw [hpart]; rfl
  have hstart {b : State × ReplyCode} (hb : s.startSurvey a = b) (hsame : SameReply s b.1) :
      ∃ t, exec (.surveyStart a) s = .next t ∧ Answers s t 0x20 b.2 [] b.1 :=
    rowOf_answers (c := .surveyStart a) hport hstartAllowed (congrArg answerOf hb) hsame
  have hhalt {b : State × ReplyCode} (hb : s.haltSurvey = b) (hsame : SameReply s b.1) :
      ∃ t, exec .surveyHalt s = .next t ∧ Answers s t 0x21 b.2 [] b.1 :=
    rowOf_answers (c := .surveyHalt) hport hhaltAllowed (congrArg answerOf hb) hsame
  refine ⟨fun hacquire => hstart (State.startSurvey_of_acquire hacquire) (.refl s), fun htiming hadopted => ?_,
    fun htiming hnone hbad => ?_, ?_, fun hnone => hhalt (haltSurvey_of_none hnone) (.refl s),
    fun e he => ⟨fun horigin => ?_, fun horigin hhalted => ?_,
      fun horigin hnone hh => ?_⟩⟩
  · obtain ⟨e, he⟩ := Option.ne_none_iff_exists'.mp hadopted
    exact hstart (State.startSurvey_of_adopted htiming he) (.refl s)
  · refine hstart (State.startSurvey_of_bad htiming hnone ?_) (.refl s)
    rintro ⟨q, hq, hin, ⟨hlead, hhops, -⟩, hfrom, hto⟩
    obtain ⟨d, hd, rfl⟩ := Option.map_eq_some_iff.mp hq
    obtain ⟨hcycle, hoff, hspan, hcycles, hroom, hday⟩ := hin
    rw [hd] at hbad
    simp only [reduceCtorEq, false_or] at hbad hcycle hoff hspan hcycles hroom hday
    change s.params.nat 2 ≤ _ at hto
    change _ ≤ s.params.nat 2 at hfrom
    omega
  · intro htiming hnone hd hlead hlead' hcycle hcycle' hoff hoff' hspan hcycles hcycles' hhops hhops' hroom hday hfrom hto hp
    have hgood : s.SurveyAccepts a { p with start := 0 } := by
      subst hp
      refine ⟨?_, ⟨⟨hcycle, hcycle'⟩, ⟨hoff, hoff'⟩, hspan, ⟨hcycles, hcycles'⟩, hroom, hday⟩,
        ⟨⟨hlead, hlead'⟩, ⟨hhops, hhops'⟩, hfrom.trans hto⟩, hfrom, hto⟩
      rw [surveyParamsOf, hd]
      rfl
    have haccepted := acceptSurvey_eq (a := a) (p := { p with start := 0 }) hid (q := p) (by rw [hp])
    have hanswer := hstart ((State.startSurvey_of_good htiming hnone hgood).trans (by rw [haccepted])) ⟨rfl, rfl, rfl, rfl, rfl⟩
    rw [startedEntry, SurveyParams.naturalEnd_eq] at hanswer
    exact hanswer
  · exact hhalt (haltSurvey_of_foreign he horigin) (.refl s)
  · exact hhalt (haltSurvey_of_halted he horigin hhalted) (.refl s)
  · subst hh
    exact hhalt (haltSurvey_of_own he horigin hnone) (.refl s)

/-! ### A START notice (R140, R145 to R148) -/

section StartNotice

variable {s : State} {body : List Byte} {crc : Word16} {stamp : Nat} {n : Notice} {p : SurveyParams}

theorem exec_noticeFrame (h : FrameArrives s body crc stamp) (hn : parseAir body = some (.notice n)) :
    exec (.frameComplete body crc) s = .next (s.hunts.takeNotice n) := by
  obtain ⟨htaken, hcrc⟩ := h
  have hmatches : ¬ crc16 (airCovered body) ≠ crc := not_not.mpr hcrc.symm
  rw [exec_frameComplete htaken, State.examine, if_neg hmatches, hn]
  rfl

theorem exec_startFrame (h : FrameArrives s body crc stamp) (hn : parseAir body = some (.notice n)) (hp : n.body = .start p) :
    exec (.frameComplete body crc) s = .next (s.hunts.takeStart n p) := by
  rw [exec_noticeFrame h hn, State.takeNotice, hp]

theorem exec_haltFrame {at_ : Nat} (h : FrameArrives s body crc stamp) (hn : parseAir body = some (.notice n)) (hp : n.body = .halt at_) :
    exec (.frameComplete body crc) s = .next (s.hunts.takeHaltNotice n at_) := by
  rw [exec_noticeFrame h hn, State.takeNotice, hp]

/-- A notice that is read keeps the parameter rules of R78. -/
theorem notice_wellFormed (hn : parseAir body = some (.notice n)) : n.WellFormed := by
  unfold parseAir at hn
  split_ifs at hn
  · simp at hn
  · obtain ⟨m, hm, heq⟩ := Option.map_eq_some_iff.mp hn
    obtain rfl := AirFrame.notice.inj heq
    unfold parseNotice at hm
    split at hm
    · cases hm
    · dsimp only at hm
      split_ifs at hm with hformed
      obtain rfl := Option.some.inj hm
      exact hformed

theorem entryOf_isSome_iff {v : Survey} {id : SurveyId} : (v.entryOf id).isSome ↔ ∃ e ∈ v.table, e.id = id := by
  simp [Survey.entryOf, List.find?_isSome]

/-- The ticks from S to the end of a survey of at most half a line day, which is at or past S. -/
theorem shifted_naturalEnd {start length : Nat} (hlength : length ≤ 432000000) (hpos : 0 < length) :
    shifted ((start + length) % 864000000) (-start) = length ∧ atOrPast ((start + length) % 864000000) start := by
  simp only [shifted_eq, atOrPast, before, dayMod, Config.day]
  push_cast
  omega

theorem startEntry_within (hin : p.InRange) (state : EntryState) (tally t : Nat) :
    (startEntry n p state tally).within t ↔ shifted t (-p.start) < p.cycles * p.cycle := by
  obtain ⟨⟨hcycle, -⟩, -, -, ⟨hcycles, -⟩, -, hday⟩ := hin
  obtain ⟨hlength, hplace⟩ := shifted_naturalEnd (start := p.start) hday (Nat.mul_pos (by omega) (by omega))
  have hstop : (startEntry n p state tally).endTime = some ((p.start + p.cycles * p.cycle) % 864000000) :=
    congrArg some p.naturalEnd_eq
  have hhalt : ¬ (startEntry n p state tally).haltReached t := by
    rintro ⟨h, hh, -⟩
    cases hh
  rw [SurveyEntry.within_iff rfl hstop, hlength, and_iff_left hhalt, and_iff_right hplace]

theorem startEntry_waits (state : EntryState) (tally t : Nat) :
    (startEntry n p state tally).waits t ↔ 1 ≤ shifted p.start (-t) ∧ shifted p.start (-t) ≤ 432000000 := by
  have hhalt : ¬ (startEntry n p state tally).haltReached t := by
    rintro ⟨h, hh, -⟩
    cases hh
  rw [SurveyEntry.waits_iff rfl, and_iff_left hhalt]

/-- The rule by which a START notice is adopted against the adopted survey (R147). -/
theorem noticeWins_iff {id : SurveyId} {x : SurveyEntry} {xp : SurveyParams} : noticeWins id p x xp = true ↔
    before p.start xp.start ∨ ¬ before xp.start p.start ∧
      (id.origin < x.id.origin ∨ id.origin = x.id.origin ∧
        1 ≤ (id.seq + 256 - x.id.seq) % 256 ∧ (id.seq + 256 - x.id.seq) % 256 ≤ 127) := by
  unfold noticeWins
  by_cases hbefore : before p.start xp.start
  · rw [if_pos hbefore]
    exact iff_of_true rfl (.inl hbefore)
  · rw [if_neg hbefore, or_iff_right hbefore]
    by_cases hafter : before xp.start p.start
    · rw [if_pos hafter]
      exact iff_of_false Bool.false_ne_true fun h => h.1 hafter
    · rw [if_neg hafter, and_iff_right hafter]
      split_ifs with horigin
      · rw [decide_eq_true_eq]
        exact ⟨.inl, fun h => h.resolve_right fun h => horigin h.1⟩
      · rw [decide_eq_true_eq]
        have heq : id.origin = x.id.origin := not_not.mp horigin
        exact ⟨fun h => .inr ⟨heq, h⟩, fun h => (h.resolve_left (by rw [heq]; exact lt_irrefl _)).2⟩

theorem adoptsNotice_iff {id : SurveyId} (hknown : ∀ x, s.survey.adoptedEntry = some x → x.params ≠ none) :
    s.adoptsNotice id p = true ↔ s.survey.adoptedEntry = none ∨ ∃ x xp, s.survey.adoptedEntry = some x ∧ x.params = some xp ∧
      (before p.start xp.start ∨ ¬ before xp.start p.start ∧
        (id.origin < x.id.origin ∨ id.origin = x.id.origin ∧
          1 ≤ (id.seq + 256 - x.id.seq) % 256 ∧ (id.seq + 256 - x.id.seq) % 256 ≤ 127)) := by
  unfold State.adoptsNotice
  cases hx : s.survey.adoptedEntry with
  | none => simp
  | some x =>
    obtain ⟨xp, hxp⟩ := Option.ne_none_iff_exists'.mp (hknown x hx)
    dsimp only
    rw [hxp]
    dsimp only
    rw [noticeWins_iff]
    refine ⟨fun h => .inr ⟨x, xp, rfl, hxp, h⟩, fun h => ?_⟩
    obtain ⟨y, yp, hy, hyp, h⟩ := h.resolve_left (Option.some_ne_none x)
    obtain rfl := Option.some.inj hy
    obtain rfl := Option.some.inj (hxp.symm.trans hyp)
    exact h

/-- The entry that a START notice makes, with its relaying set where it is relayed and else left free (R148, log 16). -/
theorem startEntry_eq (state : EntryState) : startEntry n p state s.timer.tally = noticeEntry s n p state .start 0 0 := by
  rw [startEntry, p.naturalEnd_eq]
  rfl

theorem unrelayed_eq : ∃ relay hops, hops ≤ 15 ∧ ∀ state,
    (startEntry n p state s.timer.tally).unrelayed s = noticeEntry s n p state relay 0 hops := by
  refine ⟨if Config.unrelayedIsStart s.draws then .start else .halt, _, Nat.lt_succ_iff.mp (Config.unrelayedHops s.draws).isLt,
    fun state => ?_⟩
  rw [startEntry_eq]
  rfl

/-- A new START entry that is relayed while hops remain, and the draw that one without relaying takes. -/
theorem relayedStart_eq : ∃ relay copies hops,
    (∀ state, relayedStart s n (startEntry n p state s.timer.tally) = noticeEntry s n p state relay copies hops) ∧
    (0 < n.hops → relay = .start ∧ copies = 3 ∧ hops = n.hops - 1 ∧ s.relayDrawn (0 < n.hops) = s) ∧
    (n.hops = 0 → copies = 0 ∧ hops ≤ 15 ∧ s.relayDrawn (0 < n.hops) = s.drawn) := by
  by_cases hhops : 0 < n.hops
  · refine ⟨.start, 3, n.hops - 1, fun state => ?_, fun _ => ⟨rfl, rfl, rfl, if_pos hhops⟩, fun h => by omega⟩
    rw [relayedStart, if_pos hhops, startEntry_eq]
    rfl
  · obtain ⟨relay, hops, hbound, hentry⟩ := unrelayed_eq (s := s) (n := n) (p := p)
    refine ⟨relay, 0, hops, fun state => ?_, fun h => absurd h hhops, fun _ => ⟨rfl, hbound, if_neg hhops⟩⟩
    rw [relayedStart, if_neg hhops, hentry]

/-- The table once a START notice is adopted: every other adopted entry SUPERSEDED, and the new one at the end (R147). -/
theorem supersedeOthers_add {v : Survey} {e : SurveyEntry} (hnew : ∀ x ∈ v.table, x.id ≠ e.id) :
    ((v.add e).supersedeOthers e.id) =
      { v with
        table :=
          (Safety.roomFor v.table).map (fun x => if x.state = .pending ∨ x.state = .active then { x with state := .superseded } else x)
            ++ [e] } := by
  have hroom : ∀ x ∈ Safety.roomFor v.table, x.id ≠ e.id := fun x hx => hnew x (v.roomFor_sublist.subset (v.roomFor_eq ▸ hx))
  rw [Survey.add_eq, Survey.supersedeOthers]
  simp only [List.map_append, List.map_cons, List.map_nil, ne_eq, not_true_eq_false, and_false, if_false]
  congr 2
  exact List.map_congr_left fun x hx => if_congr (and_iff_left (hroom x hx)) rfl rfl

/-- In a table whose other entries are superseded the new entry is the adopted one. -/
theorem adoptedEntry_superseded {v : Survey} {room : List SurveyEntry} {e : SurveyEntry} (he : e.adopted)
    (hv : v.table =
      room.map (fun x => if x.state = .pending ∨ x.state = .active then { x with state := .superseded } else x) ++ [e]) :
    v.adoptedEntry = some e := by
  have hnone : (room.map fun x =>
      if x.state = .pending ∨ x.state = .active then { x with state := .superseded } else x).find? (fun x => decide x.adopted) =
      none := by
    refine List.find?_eq_none.mpr fun y hy => ?_
    obtain ⟨x, -, rfl⟩ := List.mem_map.mp hy
    by_cases hx : x.state = .pending ∨ x.state = .active
    · rw [if_pos hx]
      simp
    · rw [if_neg hx]
      simpa using hx
  rw [Survey.adoptedEntry, hv, List.find?_append, hnone, Option.none_or]
  simp [he]

/-- A new PENDING entry whose survey line time lies within or waits for stays where line time stands (R140). -/
theorem noticeEntry_moved (hin : p.InRange) {relay : NoticeAction} {copies hops : Nat}
    (hplace : NoticeWithin s p ∨ NoticeWaits s p) :
    (noticeEntry s n p .pending relay copies hops).moved .small s.timer.lineTime =
      if NoticeWithin s p then .active else .pending := by
  obtain ⟨⟨hcycle, -⟩, -, -, ⟨hcycles, -⟩, -, hday⟩ := hin
  obtain ⟨hlength, hpast⟩ := shifted_naturalEnd (start := p.start) hday (Nat.mul_pos (by omega) (by omega))
  have hhalt : ¬ ∃ h ∈ (noticeEntry s n p .pending relay copies hops).halt, atOrPast s.timer.lineTime h := by
    rintro ⟨h, hh, -⟩
    cases hh
  rw [moved_eq_placed (p := p) rfl rfl (left := False) (iff_of_false (fun h => nomatch (show EntryState.pending = .active from h.1)) id),
    surveyPlaced, if_neg hhalt, hlength]
  by_cases hwithin : NoticeWithin s p
  · rw [if_pos ⟨hpast, hwithin⟩, if_pos hwithin]
  · rw [if_neg fun h => hwithin h.2, if_neg not_false, if_neg hwithin, if_pos (hplace.resolve_left hwithin)]

/-- The table of an adopted START notice with the new entry moved: the others, of other identities, stay. -/
theorem surveyMoved_superseded {room : List SurveyEntry} {e : SurveyEntry} (hnew : ∀ x ∈ room, x.id ≠ e.id) (next : EntryState) :
    (room.map (fun x => if x.state = .pending ∨ x.state = .active then { x with state := .superseded } else x) ++ [e]).map
        (fun x => if x.id = e.id then { x with state := next } else x) =
      room.map (fun x => if x.state = .pending ∨ x.state = .active then { x with state := .superseded } else x) ++
        [{ e with state := next }] := by
  rw [List.map_append, List.map_map, List.map_singleton, if_pos rfl]
  refine congrArg (· ++ _) (List.map_congr_left fun x hx => if_neg ?_)
  dsimp only
  split_ifs
  · exact hnew x hx
  · exact hnew x hx

/-- The part after an adopted START notice (R5, R136, R147, R153). -/
theorem settleSurvey_of_startNotice {y : State} {v : Survey} {e : SurveyEntry} {next : EntryState} (he : e.state = .pending)
    (hv : v.adoptedEntry = some e) (hnext : e.moved .small y.timer.lineTime = next) (hplace : next = .pending ∨ next = .active) :
    ((y.setSurvey v).latch .survey).settleSurvey .small =
      { y with
        survey := { v with table := v.table.map fun x => if x.id = e.id then { x with state := next } else x }
        timer := { y.timer with plan := if next = .active then .survey else .steady }
        reg := if y.timer.plan = .steady ∧ next = .active then surveyHeld y.reg else y.reg
        port := latched y.port .survey } := by
  have hsettled := settleSurvey_of_adopted (s := (y.setSurvey v).latch .survey) hv hnext
  rw [hsettled, State.latch_eq]
  rcases hplace with rfl | rfl
  · simp
    rfl
  · simp [he]
    exact ⟨rfl, rfl⟩

end StartNotice

/-- Settles O41: known, past or not of this station, lost, or adopted. -/
theorem startNoticeTaken : Obligations.StartNoticeTaken := by
  intro s body crc stamp n p concerns adopts harrives hn hp hconcerns hadopts hknownParams
  have hexec := exec_startFrame harrives hn hp
  have hin : p.InRange := by
    obtain ⟨-, -, -, hformed⟩ := notice_wellFormed hn
    rw [hp] at hformed
    exact (of_decide_eq_true hformed).2
  have hplace (state : EntryState) : (¬ inSpan s.params n.spanFrom n.spanTo ∨
      ¬ ((startEntry n p state s.timer.tally).within s.timer.lineTime ∨ (startEntry n p state s.timer.tally).waits s.timer.lineTime)) ↔
      concerns = false := by
    rw [hconcerns, decide_eq_false_iff_not, startEntry_within hin, startEntry_waits, ← not_and_or, and_assoc]
    exact Iff.rfl
  refine ⟨fun hknown => ?_, fun hnew => ?_⟩
  · rw [hexec, takeStart_of_known (s := s.hunts) (entryOf_isSome_iff.mpr hknown)]
    rfl
  have hunknown : ¬ (s.hunts.survey.entryOf n.id).isSome := fun h => by
    obtain ⟨e, he, hid⟩ := entryOf_isSome_iff.mp h
    exact hnew e he hid
  cases hc : concerns with
  | false =>
    obtain ⟨relay, hops, hbound, hentry⟩ := unrelayed_eq (s := s.hunts) (n := n) (p := p)
    have htaken := hexec.trans (congrArg Host.Outcome.next
      (takeStart_of_ignored (s := s.hunts) hunknown ((hplace .ignored).mpr hc)))
    rw [hentry, Survey.add_eq] at htaken
    exact ⟨_, relay, 0, hops, htaken, fun h => absurd h Bool.false_ne_true, fun _ => ⟨rfl, hbound, rfl⟩, fun _ => rfl,
      fun h => absurd h Bool.false_ne_true, fun h => absurd h Bool.false_ne_true⟩
  | true =>
    obtain ⟨relay, copies, hops, hentry, hrelayed, hfree⟩ := relayedStart_eq (s := s.hunts) (n := n) (p := p)
    have hjudged := hexec.trans (congrArg Host.Outcome.next
      (takeStart_of_judged (s := s.hunts) hunknown (mt (hplace .ignored).mp (by rw [hc]; decide))))
    have hcounted : (0 < n.hops → relay = .start ∧ copies = 3 ∧ hops = n.hops - 1 ∧
        (s.hunts.relayDrawn (0 < n.hops)).draws = s.draws) ∧
        (n.hops = 0 → copies = 0 ∧ hops ≤ 15 ∧ (s.hunts.relayDrawn (0 < n.hops)).draws = s.draws + 1) := by
      refine ⟨fun h => ?_, fun h => ?_⟩
      · obtain ⟨hrelay, hcopies, hhops, hdrawn⟩ := hrelayed h
        exact ⟨hrelay, hcopies, hhops, by rw [hdrawn]⟩
      · obtain ⟨hcopies, hhops, hdrawn⟩ := hfree h
        exact ⟨hcopies, hhops, by rw [hdrawn]; rfl⟩
    have hdrawn : s.hunts.relayDrawn (0 < n.hops) =
        { s with link := hunting s.link, draws := (s.hunts.relayDrawn (0 < n.hops)).draws } := by
      rcases s.hunts.relayDrawn_cases (0 < n.hops) with h | h
      · rw [h]
      · rw [h]; rfl
    obtain ⟨hcountedRelayed, hcountedFree⟩ := hcounted
    have hadoptsIff := (adoptsNotice_iff (s := s.hunts) (id := n.id) (p := p) hknownParams).trans hadopts.symm
    cases ha : adopts with
    | false =>
      have hlost : ¬ s.hunts.adoptsNotice n.id p = true := fun h => by
        have hwon := hadoptsIff.mp h
        rw [ha] at hwon
        cases hwon
      rw [judgeStart_of_lost hlost, hentry, Survey.add_eq] at hjudged
      generalize s.hunts.relayDrawn (0 < n.hops) = y at *
      refine ⟨_, relay, copies, hops, hjudged, fun _ h => ?_, fun h => ?_, fun h => absurd h.symm Bool.false_ne_true, fun _ _ => ?_,
        fun _ h => absurd h Bool.false_ne_true⟩
      · exact hcountedRelayed h
      · exact hcountedFree (h.resolve_left (by decide))
      · rw [hdrawn]
        rfl
    | true =>
      rw [judgeStart_of_adopted (hadoptsIff.mpr ha), hentry] at hjudged
      generalize s.hunts.relayDrawn (0 < n.hops) = y at *
      have hsurvey : y.survey = s.survey := by rw [hdrawn]
      have hconcerned := hconcerns.symm.trans hc
      obtain ⟨-, -, hplaced⟩ := of_decide_eq_true hconcerned
      have hmoved : (noticeEntry s.hunts n p .pending relay copies hops).moved .small y.timer.lineTime =
          if NoticeWithin s p then .active else .pending := by
        rw [hdrawn]
        exact noticeEntry_moved (s := s.hunts) hin hplaced
      have hsuper : (y.survey.add (noticeEntry s.hunts n p .pending relay copies hops)).supersedeOthers n.id = _ :=
        supersedeOthers_add (e := noticeEntry s.hunts n p .pending relay copies hops) (by rw [hsurvey]; exact hnew)
      have hsettled := settleSurvey_of_startNotice (y := y) (e := noticeEntry s.hunts n p .pending relay copies hops) rfl
        (adoptedEntry_superseded (.inl rfl) (congrArg Survey.table hsuper)) hmoved (by split_ifs <;> simp)
      rw [hsettled] at hjudged
      refine ⟨_, relay, copies, hops, hjudged, fun _ h => ?_, fun h => ?_, fun h => absurd h.symm Bool.false_ne_true,
        fun _ h => absurd h.symm Bool.false_ne_true, fun _ _ => ?_⟩
      · exact hcountedRelayed h
      · exact hcountedFree (h.resolve_left (by decide))
      · have hroom : ∀ x ∈ Safety.roomFor s.survey.table, x.id ≠ n.id := fun x hx =>
          hnew x (s.survey.roomFor_sublist.subset (s.survey.roomFor_eq ▸ hx))
        have htable := surveyMoved_superseded (e := noticeEntry s.hunts n p .pending relay copies hops) hroom
          (if NoticeWithin s p then .active else .pending)
        have hactive : (if NoticeWithin s p then EntryState.active else .pending) = .active ↔ NoticeWithin s p := by
          split_ifs with hwithin <;> simp [hwithin]
        rw [hsuper, hdrawn]
        dsimp only
        rw [htable]
        simp only [hactive]
        rfl

end Sys2Proof.Machine

/-! # HALT notices (O42) -/

namespace Sys2Proof.Machine

open Sys2Proof.Safety

/-! ### The entry of an identity (R139) -/

section Entry

variable {s : State} {v : Survey} {old : SurveyEntry} {n : Notice} {h : Nat}

theorem entryOf_of_mem (hv : NoticeTable v.table) (hold : old ∈ v.table) : v.entryOf old.id = some old := by
  cases hfind : v.entryOf old.id with
  | none => exact absurd rfl (entryOf_none hfind old hold)
  | some x =>
    have hid : x.id = old.id := of_decide_eq_true (List.find?_some (p := fun e : SurveyEntry => decide (e.id = old.id)) hfind)
    rw [hv.eq_of_id (List.mem_of_find?_eq_some hfind) hold hid]

theorem entryOf_of_new {id : SurveyId} (hnew : ∀ e ∈ v.table, e.id ≠ id) : v.entryOf id = none :=
  List.find?_eq_none.mpr fun e he => by simpa using hnew e he

theorem eq_of_mem_short {l : List SurveyEntry} (hl : l.length ≤ 1) {x y : SurveyEntry} (hx : x ∈ l) (hy : y ∈ l) : x = y := by
  match l with
  | [] => cases hx
  | [a] => rw [List.mem_singleton.mp hx, List.mem_singleton.mp hy]
  | _ :: _ :: _ => simp at hl

/-- The adopted entry of a table that holds one at most (R139). -/
theorem adoptedEntry_of_mem (hv : NoticesLawful v) (hold : old ∈ v.table) (hadopted : old.adopted) : v.adoptedEntry = some old := by
  cases hfind : v.adoptedEntry with
  | none => exact absurd hadopted (adoptedEntry_none hfind old hold)
  | some x =>
    have hx : x.adopted := of_decide_eq_true (List.find?_some (p := fun e : SurveyEntry => decide e.adopted) hfind)
    have hcount := hv.2
    rw [adoptedCount, List.countP_eq_length_filter] at hcount
    have hmemX : x ∈ v.table.filter fun e => decide e.adopted :=
      List.mem_filter.mpr ⟨List.mem_of_find?_eq_some hfind, decide_eq_true hx⟩
    have hmemOld : old ∈ v.table.filter fun e => decide e.adopted := List.mem_filter.mpr ⟨hold, decide_eq_true hadopted⟩
    rw [eq_of_mem_short hcount hmemX hmemOld]

end Entry

/-! ### The first HALT of an identity (R150, R151) -/

section FirstHalt

variable {s : State} {old e : SurveyEntry} {n : Notice} {h : Nat} {relayed : Bool}

theorem haltRelayed_iff (hrelayed : relayed = decide (0 < n.hops ∧ n.spanFrom ≤ s.params.nat 2 ∧ s.params.nat 2 ≤ n.spanTo)) :
    haltRelayed s.params n ↔ relayed = true := by
  rw [hrelayed, decide_eq_true_eq]
  rfl

/-- What the relaying of a first HALT makes of an entry (R151). -/
theorem relayHalt_eq (x : SurveyEntry)
    (hrelayed : relayed = decide (0 < n.hops ∧ n.spanFrom ≤ s.params.nat 2 ∧ s.params.nat 2 ≤ n.spanTo)) :
    x.relayHalt s.params n =
      { x with
        relay := if relayed = true then .halt else x.relay
        copiesLeft := if relayed = true then 3 else 0
        hops := if relayed = true then n.hops - 1 else x.hops } := by
  rw [SurveyEntry.relayHalt]
  by_cases hr : relayed = true
  · rw [if_pos ((haltRelayed_iff hrelayed).mpr hr), if_pos hr, if_pos hr, if_pos hr]
    rfl
  · rw [if_neg (mt (haltRelayed_iff hrelayed).mp hr), if_neg hr, if_neg hr, if_neg hr]

theorem tookHalt_of_idle (hidle : ¬ old.adopted) : old.tookHalt h =
    { heardAgain old with halt := some h, state := if old.state = .ended then .ended else .halted } := by
  have hstate : old.state.afterHalt = if old.state = .ended then .ended else .halted := by
    cases hs : old.state <;> simp_all [EntryState.afterHalt]
  rw [SurveyEntry.tookHalt, if_neg hidle, hstate]
  rfl

theorem tookHalt_of_adopted {p : SurveyParams} {stop : Nat} {shortens : Bool} (hadopted : old.adopted) (hp : old.params = some p)
    (hstop : old.endTime = some stop)
    (hshortens : shortens = decide (before h stop ∨ (old.state = .pending ∧ before h p.start))) : old.tookHalt h =
    { heardAgain old with halt := some h, endTime := some (if shortens = true then h else stop) } := by
  have hiff : old.hear.shortensTo h ↔ shortens = true := by
    rw [hshortens, decide_eq_true_eq]
    simp [SurveyEntry.shortensTo, SurveyEntry.hear, hp, hstop]
  have hend : (if old.hear.shortensTo h then some h else old.hear.endTime) = some (if shortens = true then h else stop) := by
    have hsame : old.hear.endTime = some stop := hstop
    by_cases hs : shortens = true
    · rw [if_pos (hiff.mpr hs), if_pos hs]
    · rw [if_neg (mt hiff.mp hs), if_neg hs, hsame]
  rw [SurveyEntry.tookHalt, if_pos hadopted, SurveyEntry.takeHalt, hend]
  rfl

/-- A halt line time that shortens a survey is not its natural end. -/
theorem shortened_end_ne {p : SurveyParams} {stop : Nat} (hday : p.cycles * p.cycle ≤ 432000000)
    (hstop : stop = (p.start + p.cycles * p.cycle) % 864000000) (h' : before h stop ∨ before h p.start) : h ≠ stop := by
  rintro rfl
  rcases h' with hb | hb
  · simp [before, dayMod] at hb
  · subst hstop
    generalize p.cycles * p.cycle = length at hday hb
    simp only [before, dayMod, Config.day] at hb
    push_cast at hb
    omega

/-- From its halt line time on the adopted survey is HALTED when that shortened it, and else ENDED (R140, R150; log 15). -/
theorem moved_at_halt {p : SurveyParams} {stop t : Nat} {shortens : Bool} (hp : e.params = some p)
    (hday : p.cycles * p.cycle ≤ 432000000) (hstop : stop = (p.start + p.cycles * p.cycle) % 864000000)
    (hend : e.endTime = some (if shortens = true then h else stop)) (hhalt : e.halt = some h) (hreached : atOrPast t h)
    (hshortens : shortens = true → before h stop ∨ before h p.start) :
    e.moved .small t = if shortens = true then .halted else .ended := by
  have hreachedE : e.haltReached t := ⟨h, hhalt, hreached⟩
  have hshort : e.shortened ↔ shortens = true := by
    rw [SurveyEntry.shortened_iff hp hend (by rw [hhalt]; rfl), ← hstop]
    by_cases hs : shortens = true
    · rw [if_pos hs]
      exact iff_of_true (shortened_end_ne hday hstop (hshortens hs)) hs
    · rw [if_neg hs]
      exact iff_of_false (fun hne => hne rfl) hs
  rw [SurveyEntry.moved, if_pos hreachedE]
  exact if_congr hshort rfl rfl

/-- The part once a HALT notice has ended the adopted survey (R5, R150, R153). -/
theorem settleSurvey_of_halt {table : List SurveyEntry} {next : EntryState}
    (hnow : ({ s.survey with table := table.map fun x => if x.id = n.id then e else x } : Survey).adoptedEntry = some e)
    (hid : e.id = n.id) (hmoved : e.moved .small s.timer.lineTime = next) (hnext : next = .halted ∨ next = .ended) :
    (s.setSurvey { s.survey with table := table.map fun x => if x.id = n.id then e else x }).settleSurvey .small =
      { s with
        survey := { s.survey with table := table.map fun x => if x.id = n.id then { e with state := next } else x }
        timer := { s.timer with plan := .steady }
        port := latched s.port .survey } := by
  have hadopted : e.adopted := of_decide_eq_true (List.find?_some (p := fun x : SurveyEntry => decide x.adopted) hnow)
  have hactive : next ≠ .active := by rcases hnext with rfl | rfl <;> decide
  have hlatch : next ≠ e.state ∧ next ≠ .pending := by
    rcases hnext with rfl | rfl <;> rcases hadopted with hstate | hstate <;> rw [hstate] <;> decide
  have htable : (table.map fun x => if x.id = n.id then e else x).map (fun x => if x.id = e.id then { x with state := next } else x) =
      table.map fun x => if x.id = n.id then { e with state := next } else x := by
    rw [List.map_map]
    refine List.map_congr_left fun x _ => ?_
    by_cases hx : x.id = n.id
    · simp only [Function.comp_apply, if_pos hx, if_true]
    · simp only [Function.comp_apply, if_neg hx, hid]
  have hsettled := settleSurvey_of_adopted (s := s.setSurvey { s.survey with table := table.map fun x => if x.id = n.id then e else x })
    hnow hmoved
  rw [hsettled, if_pos hlatch, if_neg hactive, if_neg fun h => hactive h.2, surveyMoved]
  dsimp only [State.setSurvey]
  rw [htable]

end FirstHalt

/-- Settles O42: an identity not known, heard again, or met by its first HALT. -/
theorem haltNoticeTaken : Obligations.HaltNoticeTaken := by
  intro s body crc stamp h n relayed harrives hn hp hlaw hrelayed
  have hexec := exec_haltFrame harrives hn hp
  have hlawful := (noticesLawful_iff s).mpr hlaw
  refine ⟨fun hnew => ?_, fun old e hold hid => ⟨fun hhalted => ?_, fun hnone he => ?_⟩⟩
  · have htaken := hexec.trans (congrArg Host.Outcome.next (takeHaltNotice_of_unknown (s := s.hunts) (entryOf_of_new hnew)))
    by_cases hr : relayed = true
    · rw [if_pos ((haltRelayed_iff hrelayed).mpr hr), Survey.add_eq] at htaken
      exact ⟨_, .halt, 3, n.hops - 1, htaken, fun _ => ⟨rfl, rfl, rfl, rfl⟩, fun hf => absurd (hr.symm.trans hf) (by decide), rfl⟩
    · rw [if_neg (mt (haltRelayed_iff hrelayed).mp hr), Survey.add_eq] at htaken
      exact ⟨_, _, 0, _, htaken, fun ht => absurd ht hr,
        fun _ => ⟨rfl, Nat.lt_succ_iff.mp (Config.unrelayedHops s.draws).isLt, rfl⟩, rfl⟩
  · rw [hexec, takeHaltNotice_of_halted (s := s.hunts) (hid ▸ entryOf_of_mem hlawful.1 hold) (Option.isSome_iff_ne_none.mpr hhalted)]
    rfl
  have hfirst := hexec.trans (congrArg Host.Outcome.next
    (takeHaltNotice_of_first (s := s.hunts) (h := h) (hid ▸ entryOf_of_mem hlawful.1 hold) hnone))
  have hnoted : s.hunts.haltNoted n h = { s.survey with
      table := s.survey.table.map fun x => if x.id = n.id then (old.tookHalt h).relayHalt s.params n else x } := by
    rw [State.haltNoted, ← hid]
    exact update_eq hlawful.1 hold fun x => (x.tookHalt h).relayHalt s.params n
  rw [hnoted, relayHalt_eq (old.tookHalt h) hrelayed] at hfirst
  clear hnoted
  refine ⟨fun hidle => ?_, fun p stop shortens hadopted hp hday hstop hend hshortens => ?_⟩
  · rw [if_neg fun hnow => hidle hnow.1, tookHalt_of_idle hidle] at hfirst
    subst he
    exact hfirst
  · obtain ⟨set, hset⟩ : ∃ set : SurveyEntry, set = { e with endTime := some (if shortens = true then h else stop) } := ⟨_, rfl⟩
    refine ⟨fun hreached => ?_, fun hbefore => ?_⟩
    · have hmoved : set.moved .small s.timer.lineTime = if shortens = true then .halted else .ended := by
        subst hset he
        exact moved_at_halt hp hday hstop rfl rfl hreached fun hs =>
          (of_decide_eq_true (hshortens.symm.trans hs)).imp id And.right
      have hsetId : set.id = n.id := by
        rw [hset, he]
        exact hid
      have hadopted' : set.adopted := by
        rw [hset, he]
        exact hadopted
      have hreachedNow : old.adopted ∧ (old.tookHalt h).haltReached s.timer.lineTime := by
        rw [tookHalt_of_adopted hadopted hp hend hshortens]
        exact ⟨hadopted, h, rfl, hreached⟩
      have hnow := adoptedEntry_set hlawful.1 (adoptedEntry_of_mem hlawful hold hadopted) hadopted'
      rw [if_pos hreachedNow, tookHalt_of_adopted hadopted hp hend hshortens] at hfirst
      have hsettled := settleSurvey_of_halt (s := s.hunts) (hid ▸ hnow) hsetId hmoved (by split_ifs <;> simp)
      rw [hset, he] at hsettled
      rw [he]
      exact hfirst.trans (congrArg Host.Outcome.next hsettled)
    · have hnot : ¬ (old.adopted ∧ (old.tookHalt h).haltReached s.timer.lineTime) := by
        rw [tookHalt_of_adopted hadopted hp hend hshortens]
        rintro ⟨-, x, hx, hreached⟩
        obtain rfl := Option.some.inj hx
        exact hreached hbefore
      rw [if_neg hnot, tookHalt_of_adopted hadopted hp hend hshortens] at hfirst
      rw [he]
      exact hfirst

end Sys2Proof.Machine

/-! # Air frames (O37) -/

namespace Sys2Proof.Machine

open Sys2Proof.Safety

/-! ### Named values and fields read back (R184, section 11.2) -/

section Fields

variable {xs ys : List Byte}

theorem TimingState.ofCode_code {x : TimingState} (h : x ≠ .stopped) : TimingState.ofCode x.code = some x := by
  cases x with
  | stopped => exact absurd rfl h
  | acquire | free | tracking | anchored => rfl

theorem Plan.ofCode_code (x : Plan) : Plan.ofCode x.code = some x := by cases x <;> rfl
theorem DriveState.ofCode_code (x : DriveState) : DriveState.ofCode x.code = some x := by cases x <;> rfl
theorem Condition.ofCode_code (x : Condition) : Condition.ofCode x.code = some x := by cases x <;> rfl
theorem HoldReason.ofCode_code (x : HoldReason) : HoldReason.ofCode x.code = some x := by cases x <;> rfl
theorem ditherOfCode_code (x : Dither) : ditherOfCode x.code = some x := by cases x <;> rfl
theorem HoldReason.code_mod (x : HoldReason) : x.code % 256 = x.code := by cases x <;> rfl

/-- A field behind what precedes it. -/
theorem u8_at {i : Nat} (h : i = xs.length) : u8 (xs ++ ys) i = u8 ys 0 := by
  rw [u8_append_right _ _ h.ge, h, Nat.sub_self]

theorem u16_at {i : Nat} (h : i = xs.length) : u16 (xs ++ ys) i = u16 ys 0 := by
  rw [u16_append_right _ _ h.ge, h, Nat.sub_self]

theorem s16_enc16s_at {i : Nat} (h : i = xs.length) {v : Int} (hlow : -32768 ≤ v) (hhigh : v ≤ 32767) :
    s16 (xs ++ (enc16s v ++ ys)) i = v := by
  have hfield := u16_enc16s_append (v := v) (ys := ys)
  rw [s16, u16_at h]
  split_ifs <;> omega

/-- A survey identity reads back. -/
theorem surveyId_at {i : Nat} (h : i = xs.length) {id : SurveyId} (horigin : id.origin < 65536) (hseq : id.seq < 256) :
    u16 (xs ++ (id.enc ++ ys)) i = id.origin ∧ u8 (xs ++ (id.enc ++ ys)) (i + 2) = id.seq := by
  have hseqAt : xs ++ (id.enc ++ ys) = (xs ++ enc16 id.origin) ++ (enc8 id.seq ++ ys) := by simp [SurveyId.enc]
  constructor
  · rw [u16_at h, SurveyId.enc, List.append_assoc, u16_enc16_append, Nat.mod_eq_of_lt horigin]
  · rw [hseqAt, u8_at (by simp [h]), u8_enc8_append, Nat.mod_eq_of_lt hseq]

end Fields

/-! ### STATUS bodies (R73, R78, R184) -/

section StatusBody

variable (f : Status)

/-- The fields that every STATUS body has. -/
def Status.head : List Byte :=
  enc8 1 ++ enc8 (presenceCode f.holdReason.isSome f.depth.isSome f.amount.isSome f.survey.isSome) ++
    enc16 f.station ++ enc16 f.chainage ++ enc16 f.planTag.toNat ++ enc32 f.stamp ++ enc8 f.timing.code ++
    enc16 f.root ++ enc8 f.plan.code ++ enc8 f.drive.code ++ enc16 f.current ++ enc8 f.condition.code

/-- The optional fields of a STATUS body. -/
def Status.holdBytes : List Byte := encOpt (fun h => enc8 h.code) f.holdReason
def Status.depthBytes : List Byte := encOpt enc16s f.depth
def Status.amountBytes : List Byte := encOpt enc16 f.amount
def Status.surveyBytes : List Byte := encOpt SurveyId.enc f.survey

theorem Status.enc_eq : f.enc = f.head ++ (f.holdBytes ++ (f.depthBytes ++ (f.amountBytes ++ f.surveyBytes))) := by
  simp only [Status.enc, Status.head, Status.holdBytes, Status.depthBytes, Status.amountBytes, Status.surveyBytes, List.append_assoc]

theorem Status.length_head : f.head.length = 20 := by simp [Status.head]

theorem Status.length_holdBytes : f.holdBytes.length = f.holdReason.isSome.toNat := by
  unfold Status.holdBytes
  cases f.holdReason <;> simp [encOpt]

theorem Status.length_depthBytes : f.depthBytes.length = f.depth.isSome.toNat * 2 := by
  unfold Status.depthBytes
  cases f.depth <;> simp [encOpt]

theorem Status.length_amountBytes : f.amountBytes.length = f.amount.isSome.toNat * 2 := by
  unfold Status.amountBytes
  cases f.amount <;> simp [encOpt]

theorem Status.length_surveyBytes : f.surveyBytes.length = f.survey.isSome.toNat * 3 := by
  unfold Status.surveyBytes
  cases f.survey <;> simp [encOpt, SurveyId.enc]

theorem Status.length_enc : f.enc.length =
    20 + f.holdReason.isSome.toNat + f.depth.isSome.toNat * 2 + f.amount.isSome.toNat * 2 + f.survey.isSome.toNat * 3 := by
  rw [Status.enc_eq]
  simp only [List.length_append, f.length_head, f.length_holdBytes, f.length_depthBytes, f.length_amountBytes, f.length_surveyBytes]
  omega

variable {f} {rest : List Byte}

theorem Status.head_kind : u8 (f.head ++ rest) 0 = 1 := by
  simp [Status.head, u8_enc8_append]

theorem Status.head_presence : (f.head ++ rest).getD 1 0 =
    BitVec.ofNat 8 (presenceCode f.holdReason.isSome f.depth.isSome f.amount.isSome f.survey.isSome) := rfl

theorem presenceCode_bits (hold depth amount survey : Bool) :
    (BitVec.ofNat 8 (presenceCode hold depth amount survey)).getLsbD 0 = hold ∧
      (BitVec.ofNat 8 (presenceCode hold depth amount survey)).getLsbD 1 = depth ∧
      (BitVec.ofNat 8 (presenceCode hold depth amount survey)).getLsbD 2 = amount ∧
      (BitVec.ofNat 8 (presenceCode hold depth amount survey)).getLsbD 3 = survey := by
  revert hold depth amount survey
  decide

theorem Status.head_fields : u16 (f.head ++ rest) 2 = f.station % 65536 ∧ u16 (f.head ++ rest) 4 = f.chainage % 65536 ∧
    u16 (f.head ++ rest) 6 = f.planTag.toNat % 65536 ∧ u32 (f.head ++ rest) 8 = f.stamp % 4294967296 ∧
    u8 (f.head ++ rest) 12 = f.timing.code ∧ u16 (f.head ++ rest) 13 = f.root % 65536 ∧ u8 (f.head ++ rest) 15 = f.plan.code ∧
    u8 (f.head ++ rest) 16 = f.drive.code ∧ u16 (f.head ++ rest) 17 = f.current % 65536 ∧
    u8 (f.head ++ rest) 19 = f.condition.code := by
  simp [Status.head, u8_append_right, u16_append_right, u32_append_right, u8_enc8_append, u16_enc16_append, u32_enc32_append,
    TimingState.code_mod, Plan.code_mod, DriveState.code_mod, Condition.code_mod]

/-! The optional fields stand where the presence byte puts them. -/

theorem Status.enc_hold {h : HoldReason} (hh : f.holdReason = some h) : u8 f.enc 20 = h.code := by
  rw [Status.enc_eq, u8_at f.length_head.symm, Status.holdBytes, hh]
  exact HoldReason.code_mod h

theorem Status.enc_depth {d : Int} (hd : f.depth = some d) (hlow : -32768 ≤ d) (hhigh : d ≤ 32767) :
    s16 f.enc (20 + f.holdReason.isSome.toNat) = d := by
  have hbytes : f.depthBytes = enc16s d := by rw [Status.depthBytes, hd]; rfl
  rw [Status.enc_eq, ← List.append_assoc, hbytes]
  exact s16_enc16s_at (by rw [List.length_append, f.length_head, f.length_holdBytes]) hlow hhigh

theorem Status.enc_amount {a : Nat} (ha : f.amount = some a) (hhigh : a < 65536) :
    u16 f.enc (20 + f.holdReason.isSome.toNat + f.depth.isSome.toNat * 2) = a := by
  have hbytes : f.amountBytes = enc16 a := by rw [Status.amountBytes, ha]; rfl
  rw [Status.enc_eq, ← List.append_assoc, ← List.append_assoc, hbytes,
    u16_at (by rw [List.length_append, List.length_append, f.length_head, f.length_holdBytes, f.length_depthBytes]),
    u16_enc16_append, Nat.mod_eq_of_lt hhigh]

theorem Status.enc_survey {i : SurveyId} (hi : f.survey = some i) (horigin : i.origin < 65536) (hseq : i.seq < 256) :
    u16 f.enc (20 + f.holdReason.isSome.toNat + f.depth.isSome.toNat * 2 + f.amount.isSome.toNat * 2) = i.origin ∧
      u8 f.enc (20 + f.holdReason.isSome.toNat + f.depth.isSome.toNat * 2 + f.amount.isSome.toNat * 2 + 2) = i.seq := by
  have hbytes : f.surveyBytes = i.enc ++ [] := by rw [Status.surveyBytes, hi, List.append_nil]; rfl
  rw [Status.enc_eq, ← List.append_assoc, ← List.append_assoc, ← List.append_assoc, hbytes]
  refine surveyId_at ?_ horigin hseq
  simp only [List.length_append, f.length_head, f.length_holdBytes, f.length_depthBytes, f.length_amountBytes]

/-- A STATUS body that is built reads back (R73, R78). -/
theorem parseStatus_enc (hf : f.WellFormed) (hstation : f.station < 65536) (hchainage : f.chainage < 65536)
    (hseq : ∀ i ∈ f.survey, i.seq < 256) : parseStatus f.enc = some f := by
  have hformed := hf
  obtain ⟨-, hstamp, htiming, hroot, hcurrent, hdepth, hamount, -, -, -, hsurvey⟩ := hf
  obtain ⟨hstationAt, hchainageAt, htagAt, hstampAt, htimingAt, hrootAt, hplanAt, hdriveAt, hcurrentAt, hconditionAt⟩ :=
    Status.head_fields (f := f) (rest := f.holdBytes ++ (f.depthBytes ++ (f.amountBytes ++ f.surveyBytes)))
  have hpresence := Status.head_presence (f := f) (rest := f.holdBytes ++ (f.depthBytes ++ (f.amountBytes ++ f.surveyBytes)))
  rw [← Status.enc_eq] at hstationAt hchainageAt htagAt hstampAt htimingAt hrootAt hplanAt hdriveAt hcurrentAt hconditionAt hpresence
  obtain ⟨hholdBit, hdepthBit, hamountBit, hsurveyBit⟩ :=
    presenceCode_bits f.holdReason.isSome f.depth.isSome f.amount.isSome f.survey.isSome
  rw [← hpresence] at hholdBit hdepthBit hamountBit hsurveyBit
  have htagEq : BitVec.ofNat 16 (u16 f.enc 6) = f.planTag := by
    rw [htagAt, Nat.mod_eq_of_lt f.planTag.isLt, BitVec.ofNat_toNat, BitVec.setWidth_eq]
  have hholdEq : (if f.holdReason.isSome = true then HoldReason.ofCode (u8 f.enc 20) else none) = f.holdReason := by
    cases hh : f.holdReason with
    | none => rfl
    | some h => rw [Status.enc_hold hh, HoldReason.ofCode_code]; rfl
  have hholdSome : f.holdReason.isSome = true → (HoldReason.ofCode (u8 f.enc 20)).isSome = true := fun hsome => by
    rw [if_pos hsome] at hholdEq
    rw [hholdEq, hsome]
  have hdepthEq : (if f.depth.isSome = true then some (s16 f.enc (20 + f.holdReason.isSome.toNat)) else none) = f.depth := by
    cases hd : f.depth with
    | none => rfl
    | some d =>
      obtain ⟨hlow, hhigh⟩ := hdepth d hd
      rw [Status.enc_depth hd (by omega) (by omega)]
      rfl
  have hamountEq : (if f.amount.isSome = true then
      some (u16 f.enc (20 + f.holdReason.isSome.toNat + f.depth.isSome.toNat * 2)) else none) = f.amount := by
    cases ha : f.amount with
    | none => rfl
    | some a =>
      obtain ⟨-, hhigh⟩ := hamount a ha
      rw [Status.enc_amount ha (by omega)]
      rfl
  have hsurveyEq : (if f.survey.isSome = true then
      some ({ origin := u16 f.enc (20 + f.holdReason.isSome.toNat + f.depth.isSome.toNat * 2 + f.amount.isSome.toNat * 2)
              seq := u8 f.enc (20 + f.holdReason.isSome.toNat + f.depth.isSome.toNat * 2 + f.amount.isSome.toNat * 2 + 2) } : SurveyId)
      else none) = f.survey := by
    cases hi : f.survey with
    | none => rfl
    | some i =>
      obtain ⟨-, horigin⟩ := hsurvey i hi
      obtain ⟨horiginAt, hseqAt⟩ := Status.enc_survey hi (by omega) (hseq i hi)
      rw [horiginAt, hseqAt]
      rfl
  unfold parseStatus
  simp only [hholdBit, hdepthBit, hamountBit, hsurveyBit, htimingAt, hplanAt, hdriveAt, hconditionAt, TimingState.ofCode_code htiming,
    Plan.ofCode_code, DriveState.ofCode_code, Condition.ofCode_code]
  rw [hstationAt, hchainageAt, hstampAt, hrootAt, hcurrentAt, htagEq, hholdEq, hdepthEq, hamountEq, hsurveyEq,
    Nat.mod_eq_of_lt hstation, Nat.mod_eq_of_lt hchainage, Nat.mod_eq_of_lt (hstamp.trans (by decide)),
    Nat.mod_eq_of_lt (by omega : f.root < 65536), Nat.mod_eq_of_lt (by omega : f.current < 65536)]
  exact if_pos ⟨f.length_enc, hholdSome, hformed⟩

end StatusBody

/-! ### SURVEY NOTICE bodies (R78, R185) -/

section NoticeBody

variable {n : Notice}

/-- The bytes of a notice before its action's own. -/
def Notice.head (n : Notice) (action : NoticeAction) : List Byte :=
  enc8 2 ++ n.id.enc ++ enc8 action.code ++ enc8 n.hops ++ enc16 n.spanFrom ++ enc16 n.spanTo

theorem Notice.length_head (n : Notice) (action : NoticeAction) : (n.head action).length = 10 := by
  simp [Notice.head, SurveyId.enc]

theorem Notice.enc_of_start {p : SurveyParams} (h : n.body = .start p) : n.enc =
    n.head .start ++ (enc32 p.start ++ (enc32 p.cycle ++ (enc16 p.offLen ++ (enc8 p.dither.code ++ (enc16 p.ditherSpan ++
      enc16 p.cycles))))) := by
  simp [Notice.enc, h, Notice.head]

theorem Notice.enc_of_halt {t : Nat} (h : n.body = .halt t) : n.enc = n.head .halt ++ (enc32 t ++ [0, 0]) := by
  simp [Notice.enc, h, Notice.head]

theorem Notice.head_fields (action : NoticeAction) (rest : List Byte) : u8 (n.head action ++ rest) 0 = 2 ∧
    u16 (n.head action ++ rest) 1 = n.id.origin % 65536 ∧ u8 (n.head action ++ rest) 3 = n.id.seq % 256 ∧
    u8 (n.head action ++ rest) 4 = action.code ∧ u8 (n.head action ++ rest) 5 = n.hops % 256 ∧
    u16 (n.head action ++ rest) 6 = n.spanFrom % 65536 ∧ u16 (n.head action ++ rest) 8 = n.spanTo % 65536 := by
  simp [Notice.head, SurveyId.enc, u8_append_right, u16_append_right, u8_enc8_append, u16_enc16_append, NoticeAction.code_mod]

theorem parseNoticeBody_start {p : SurveyParams} (h : n.body = .start p) (hin : p.InRange) (hstart : p.start < 864000000) :
    parseNoticeBody n.enc = some (.start p) := by
  obtain ⟨⟨-, hcycle⟩, ⟨-, hoff⟩, hspan, ⟨-, hcycles⟩, -⟩ := hin
  have hfields : u32 n.enc 10 = p.start % 4294967296 ∧ u32 n.enc 14 = p.cycle % 4294967296 ∧ u16 n.enc 18 = p.offLen % 65536 ∧
      u8 n.enc 20 = p.dither.code ∧ u16 n.enc 21 = p.ditherSpan % 65536 ∧ u16 n.enc 23 = p.cycles % 65536 ∧ n.enc.length = 25 ∧
      u8 n.enc 4 = 1 := by
    obtain ⟨-, -, -, haction, -⟩ := Notice.head_fields (n := n) .start
      (enc32 p.start ++ (enc32 p.cycle ++ (enc16 p.offLen ++ (enc8 p.dither.code ++ (enc16 p.ditherSpan ++ enc16 p.cycles)))))
    rw [Notice.enc_of_start h]
    refine ⟨?_, ?_, ?_, ?_, ?_, ?_, ?_, haction⟩ <;>
      simp [u8_append_right, u16_append_right, u32_append_right, n.length_head, u8_enc8_append, u16_enc16_append, u16_enc16,
        u32_enc32_append, Dither.code_mod]
  obtain ⟨hstartAt, hcycleAt, hoffAt, hditherAt, hspanAt, hcyclesAt, hlength, haction⟩ := hfields
  rw [parseNoticeBody, if_pos ⟨haction, hlength⟩, hditherAt, ditherOfCode_code, hstartAt, hcycleAt, hoffAt, hspanAt, hcyclesAt,
    Nat.mod_eq_of_lt (by omega), Nat.mod_eq_of_lt (by omega), Nat.mod_eq_of_lt (by omega), Nat.mod_eq_of_lt (by omega),
    Nat.mod_eq_of_lt (by omega)]
  rfl

theorem parseNoticeBody_halt {t : Nat} (h : n.body = .halt t) (ht : t < 864000000) : parseNoticeBody n.enc = some (.halt t) := by
  obtain ⟨-, -, -, haction, -⟩ := Notice.head_fields (n := n) .halt (enc32 t ++ [0, 0])
  have htime : u32 n.enc 10 = t % 4294967296 := by
    rw [Notice.enc_of_halt h]
    simp [u32_append_right, n.length_head, u32_enc32_append]
  have hlength : n.enc.length = 16 := by
    rw [Notice.enc_of_halt h]
    simp [n.length_head]
  rw [← Notice.enc_of_halt h] at haction
  have hnot : ¬ (u8 n.enc 4 = 1 ∧ n.enc.length = 25) := by rw [hlength]; omega
  rw [parseNoticeBody, if_neg hnot, if_pos ⟨haction, hlength⟩, htime, Nat.mod_eq_of_lt (by omega)]

/-- A SURVEY NOTICE body that is built reads back (R78). -/
theorem parseNotice_enc (hn : n.WellFormed) (hto : n.spanTo < 65536) (hseq : n.id.seq < 256) :
    u8 n.enc 0 = 2 ∧ parseNotice n.enc = some n := by
  have hformed := hn
  obtain ⟨⟨-, horigin⟩, hhops, hfrom, hbody⟩ := hn
  have hparts : parseNoticeBody n.enc = some n.body ∧ ∃ action rest, n.enc = n.head action ++ rest := by
    cases hb : n.body with
    | start p =>
      rw [hb] at hbody
      obtain ⟨⟨hstart, -⟩, hin⟩ := of_decide_eq_true hbody
      exact ⟨parseNoticeBody_start hb hin hstart, _, _, Notice.enc_of_start hb⟩
    | halt t =>
      rw [hb] at hbody
      obtain ⟨ht, -⟩ := of_decide_eq_true hbody
      exact ⟨parseNoticeBody_halt hb ht, _, _, Notice.enc_of_halt hb⟩
  obtain ⟨hbodyAt, action, rest, henc⟩ := hparts
  obtain ⟨hkind, horiginAt, hseqAt, -, hhopsAt, hfromAt, htoAt⟩ := Notice.head_fields (n := n) action rest
  rw [← henc] at hkind horiginAt hseqAt hhopsAt hfromAt htoAt
  refine ⟨hkind, ?_⟩
  unfold parseNotice
  rw [hbodyAt]
  dsimp only
  rw [horiginAt, hseqAt, hhopsAt, hfromAt, htoAt, Nat.mod_eq_of_lt (by omega : n.id.origin < 65536), Nat.mod_eq_of_lt hseq,
    Nat.mod_eq_of_lt (by omega : n.hops < 256), Nat.mod_eq_of_lt (by omega : n.spanFrom < 65536), Nat.mod_eq_of_lt hto]
  exact if_pos hformed

end NoticeBody

/-! ### What is read is well formed (R78, R185) -/

section Read

variable {body : List Byte} {f : Status} {n : Notice}

theorem isSome_ite {α : Type} (b : Bool) (x : α) : (if b = true then some x else none).isSome = b := by
  cases b <;> rfl

/-- A STATUS body that is read is well formed, and of the length its optional fields require. -/
theorem parseStatus_spec (h : parseStatus body = some f) : f.WellFormed ∧ body.length =
    20 + f.holdReason.isSome.toNat + 2 * f.depth.isSome.toNat + 2 * f.amount.isSome.toNat + 3 * f.survey.isSome.toNat := by
  unfold parseStatus at h
  dsimp only at h
  split at h
  · rw [Option.ite_none_right_eq_some, Option.some.injEq] at h
    obtain ⟨⟨hlength, hhold, hformed⟩, rfl⟩ := h
    refine ⟨hformed, ?_⟩
    have hholdSome : (if (body.getD 1 0).getLsbD 0 = true then HoldReason.ofCode (u8 body 20) else none).isSome =
        (body.getD 1 0).getLsbD 0 := by
      cases hb : (body.getD 1 0).getLsbD 0 with
      | false => rfl
      | true => exact hhold hb
    rw [hlength]
    dsimp only
    rw [hholdSome, isSome_ite, isSome_ite, isSome_ite]
    omega
  · cases h

theorem parseStatus_of_air (h : parseAir body = some (.status f)) : parseStatus body = some f := by
  unfold parseAir at h
  split_ifs at h
  · obtain ⟨g, hg, heq⟩ := Option.map_eq_some_iff.mp h
    rw [hg, AirFrame.status.inj heq]
  · simp at h

theorem parseNotice_of_air (h : parseAir body = some (.notice n)) : parseNotice body = some n := by
  unfold parseAir at h
  split_ifs at h
  · simp at h
  · obtain ⟨m, hm, heq⟩ := Option.map_eq_some_iff.mp h
    rw [hm, AirFrame.notice.inj heq]

/-- A SURVEY NOTICE body that is read is of its action's length. -/
theorem parseNotice_length (h : parseNotice body = some n) : (∀ p, n.body = .start p → body.length = 25) ∧
    (∀ t, n.body = .halt t → body.length = 16) := by
  have hbody : parseNoticeBody body = some n.body := by
    unfold parseNotice at h
    split at h
    · cases h
    · next b hb =>
      rw [Option.ite_none_right_eq_some, Option.some.injEq] at h
      obtain ⟨-, rfl⟩ := h
      exact hb
  unfold parseNoticeBody at hbody
  split_ifs at hbody with hstart hhalt
  · obtain ⟨d, -, hd⟩ := Option.map_eq_some_iff.mp hbody
    exact ⟨fun p _ => hstart.2, fun t ht => absurd (hd.trans ht) (by simp)⟩
  · have heq := Option.some.inj hbody
    exact ⟨fun p hp => absurd (heq.trans hp) (by simp), fun t _ => hhalt.2⟩

end Read

/-! ### The bits on air (R63, R64, R71) -/

section Bits

variable (body : List Byte)

/-- The preamble and the sync pattern. -/
def leadBits : List Bool :=
  [true, false, true, false, true, false, true, false, true, false, true, false, true, false, true, false,
    true, false, true, false, true, false, true, false, true, false, true, false, true, false, true, false] ++
  [true, true, true, false, false, true, false, false, true, false, true, true, false, false, false, true]

theorem leadBits_eq : (List.range 32).map (fun i => decide (i % 2 = 0)) ++ (List.range 16).map (fun i => Config.syncPattern.getMsbD i) =
    leadBits := by decide

theorem airBits_eq {crc : Word16} (hcrc : crc = crc16 (BitVec.ofNat 8 body.length :: body)) : airBits body =
    leadBits ++ (BitVec.ofNat 8 body.length :: body ++ [BitVec.ofNat 8 (crc.toNat / 256), BitVec.ofNat 8 crc.toNat]).flatMap
      (fun b => [7, 6, 5, 4, 3, 2, 1, 0].map fun i => b.getLsbD i) := by
  rw [airBits, leadBits_eq, hcrc]
  rfl

theorem length_flatMap_bits (bytes : List Byte) :
    (bytes.flatMap fun b => [7, 6, 5, 4, 3, 2, 1, 0].map fun i => b.getLsbD i).length = 8 * bytes.length := by
  induction bytes with
  | nil => rfl
  | cons b rest ih =>
    rw [List.flatMap_cons, List.length_append, ih, List.length_cons]
    simp
    omega

/-- In the preamble the bits on air alternate, whatever the body. -/
theorem airBits_preamble {i : Nat} (hi : i < 32) : (airBits body)[i]? = some (decide (i % 2 = 0)) := by
  rw [airBits, List.append_assoc, List.getElem?_append_left (by simpa using hi), List.getElem?_map, List.getElem?_range hi]
  rfl

/-- The transmit data line in SENDING shows the bit of the tick (R63, R71, log 35). -/
theorem txLine_of_sending {s : State} {ticks i : Nat} (htx : s.link.tx = .sending)
    (hticks : (s.timer.elapsed + 4294967296 - s.link.keyStart) % 4294967296 = 300 + ticks) (hlow : 25 * i ≤ 12 * ticks)
    (hhigh : 12 * ticks < 25 * (i + 1)) : s.txLine = ((airBits ((s.link.frame.bind (·.body)).getD []))[i]?).getD true := by
  have hindex : (ticksSince s.timer.elapsed s.link.keyStart - Config.keyLead) * 12 / 25 = i := by
    have helapsed : ticksSince s.timer.elapsed s.link.keyStart = 300 + ticks := hticks
    rw [helapsed, Config.keyLead]
    omega
  rw [State.txLine, if_pos htx]
  dsimp only
  rw [hindex]

end Bits

/-- Settles O37: what is built reads back, what is read is well formed, and the bits of a frame on the line. -/
theorem airFramesRoundTrip : Obligations.AirFramesRoundTrip := by
  refine ⟨fun f hf hstation hchainage hseq => ?_, fun n hn hto hseq => ?_, fun body f h => parseStatus_spec (parseStatus_of_air h),
    fun body n h => ⟨notice_wellFormed h, parseNotice_length (parseNotice_of_air h)⟩, fun body crc bits hcrc hbits => ?_,
    fun s htx => if_neg htx⟩
  · have hread := parseStatus_enc hf hstation hchainage hseq
    have hkind : u8 f.enc 0 = 1 := by rw [Status.enc_eq]; exact Status.head_kind
    refine ⟨(parseStatus_spec hread).2, ?_⟩
    rw [parseAir, if_pos hkind, hread]
    rfl
  · obtain ⟨hkind, hread⟩ := parseNotice_enc hn hto hseq
    obtain ⟨hstart, hhalt⟩ := parseNotice_length hread
    refine ⟨hstart, hhalt, ?_⟩
    rw [parseAir, if_neg (by rw [hkind]; decide), if_pos hkind, hread]
    rfl
  · have hair : airBits body = bits := (airBits_eq body hcrc).trans hbits.symm
    refine ⟨?_, hair, fun s entry ticks i htx hticks hlow hhigh => ⟨fun hframe => ?_, fun hframe hi => ?_⟩⟩
    · rw [hbits, List.length_append, length_flatMap_bits]
      simp
      omega
    · rw [txLine_of_sending htx hticks hlow hhigh, hframe]
      exact (congrArg (fun b : List Bool => b[i]?.getD true) hair).trans (List.getD_eq_getElem?_getD ..).symm
    · rw [txLine_of_sending htx hticks hlow hhigh, hframe, airBits_preamble _ hi]
      rfl

end Sys2Proof.Machine
